-- ==== Sys2Proof/Word.lean ====
section
/-! DEFINITION. The word types of the Mirjal 2406: highway words, cipher blocks, keys and the narrow
numbers the spec gives a width (00_scope 1.6 and Table 1-4). -/

namespace Sys2Proof

/-- One byte of a console frame, a label or a key. -/
abbrev Byte := BitVec 8

/-- A highway word, bit 31 sent first (00_scope 1.6). -/
abbrev Word := BitVec 32

/-- One cipher block of 16 bytes; the first byte is the most significant (00_scope 1.6). -/
abbrev Block := BitVec 128

/-- A 32-byte key; the first byte is the most significant (00_scope 1.6). -/
abbrev Key := BitVec 256

/-- A check value: the first 3 bytes of an encryption (Table 1-2). -/
abbrev CheckValue := BitVec 24

/-- An issuer tag, 1 to 65534 where one is present (R2). -/
abbrev IssuerTag := BitVec 16

/-- A reading of cabinet seconds, which wraps at 32 bits (R184). -/
abbrev Seconds := BitVec 32

/-- A Key Table index, 0 to 95 (R1). -/
abbrev EntryIndex := Fin 96

/-- A channel number, 0 to 7 (R49). -/
abbrev ChannelNo := Fin 8

/-- A place of the custodian table: custodian number n stands at place n − 1 (R94). -/
abbrev CustodianNo := Fin 8

/-- The kind field of a highway header, codes of Table 5-4. -/
abbrev KindCode := BitVec 2

/-- A write transaction on the console bus: the 7-bit address it names and its bytes (R89, R91). -/
structure WriteTransaction where
  address : BitVec 7
  bytes : List Byte
  deriving DecidableEq, Repr

/-- The levels that a row of the main supply monitor finds at the pins: VDD in millivolts and
ADR1:ADR0 (R89, R162; assumption log 8 and 28). -/
structure SupplyPins where
  vdd : Nat
  adr : BitVec 2
  deriving DecidableEq, Repr

end Sys2Proof
end

