-- ==== Sys2Proof/Config.lean ====
section
/-! DEFINITION. The capacities and fixed figures of Table 1-4 and of the rules, as constants.
No value of the spec is left open here: what the spec leaves to the world (a random draw, a mesh
reading, a supply level) is an operand of the step that reads it (assumption log 7 and 8). -/

namespace Sys2Proof.Config

/-- Largest allowance, 16,777,215 (R2, R13). -/
def allowanceMax : Nat := 16777215

/-- Largest used count and served count, 4,294,967,295 (R16, R64). -/
def countMax : Nat := 4294967295

/-- Largest restart count and erase count, 65,535 (R183, R179). -/
def count16Max : Nat := 65535

/-- Largest violation latch count, 255 (R107). -/
def violationMax : Nat := 255

/-- Longest label, 16 characters (R3). -/
def labelMax : Nat := 16

/-- Longest message in words, 24 (5.4, R75). -/
def messageMax : Nat := 24

/-- Longest parameter field of a console frame, 120 bytes (R91). -/
def parameterMax : Nat := 120

/-- Initial outstanding limit of a channel, 2 (R55). -/
def limitInitial : Nat := 2

/-- Initial assembly timeout, 256 frames (R78). -/
def timeoutInitial : Nat := 256

/-- HCK periods from the enable to RUNNING, 64 (R82). -/
def enablingPeriods : Nat := 64

/-- Initial presence window length, 300 cabinet seconds (R102). -/
def windowInitial : Nat := 300

/-- Most custodians on the presence list, 3 (R101). -/
def presenceMax : Nat := 3

/-- Failed responses that lock a custodian, 3 (R100). -/
def failuresToLock : Nat := 3

/-- Life of a challenge, 60 cabinet seconds (R99). -/
def challengeLife : Nat := 60

/-- Consecutive equal bytes at which a draw fails its health test, 6 (R98). -/
def repetitionLimit : Nat := 6

/-- The over-range value of a normalised reading, 8192 (R143). -/
def openReading : Nat := 8192

/-- Readings below this are a short, 64 (R143). -/
def shortBelow : Nat := 64

/-- Readings taken per mesh in learning, 8 (R151). -/
def learningReadings : Nat := 8

/-- The run-up count of every conversion started in hold, 512 (R139). -/
def holdRunUp : Nat := 512

/-- Lid samples needed for a change in normal power, 8 (R158). -/
def lidRunNormal : Nat := 8

/-- Lid samples needed for a change in hold, 2 (R158). -/
def lidRunHold : Nat := 2

/-- Crystal periods from one lid sample to the next in normal power, 32 (R158, R168). -/
def lidIntervalNormal : Nat := 32

/-- Crystal periods from one lid sample to the next in hold, 512 (R158, R168). -/
def lidIntervalHold : Nat := 512

/-- The low timer's limit, 2 ms, in microseconds (R162). -/
def lowTimerLimit : Nat := 2000

/-- The return timer's limit, 50 ms, in microseconds (R163). -/
def returnTimerLimit : Nat := 50000

/-- The settle time of a battery sample, 1 ms, in microseconds (R165). -/
def settleLimit : Nat := 1000

/-- The battery erase level, 2.45 V, in millivolts (R165). -/
def eraseLevelMv : Nat := 2450

/-- Cabinet seconds between battery samples, 16 (R165). -/
def samplePeriod : Nat := 16

end Sys2Proof.Config
end

