-- ==== Sys2Proof/Machine/Bytes.lean ====
section
/-! DEFINITION. Byte order: multi-byte numbers are sent most significant byte first (05 6.8), a key
or block first byte first (00_scope 1.6). -/

namespace Sys2Proof.Machine

/-- The low `n` bytes of the number `x`, most significant byte first. -/
def natBytes (n x : Nat) : List Byte :=
  (List.range n).map fun i => BitVec.ofNat 8 (x >>> (8 * (n - 1 - i)))

/-- The number that a byte string spells, most significant byte first. -/
def bytesNat (bytes : List Byte) : Nat :=
  bytes.foldl (fun acc b => acc * 256 + b.toNat) 0

/-- The bytes of a value of width `8 * n`, first byte first. -/
def vecBytes {w : Nat} (n : Nat) (x : BitVec w) : List Byte :=
  natBytes n x.toNat

/-- The value of width `w` that a byte string spells, first byte first. -/
def bytesVec (w : Nat) (bytes : List Byte) : BitVec w :=
  BitVec.ofNat w (bytesNat bytes)

/-- A Bool as a byte, 1 or 0. -/
def boolByte (b : Bool) : Byte :=
  if b then 1 else 0

/-- The two blocks of a 32-byte value (R117). -/
def joinBlocks (first second : Block) : Key :=
  first ++ second

/-- The first 3 bytes of a block: a check value (Table 1-2). -/
def firstThree (b : Block) : CheckValue :=
  b.extractLsb' 104 24

/-- The four words of a block, first byte in the highest bits (R88). -/
def blockWords (b : Block) : List Word :=
  [b.extractLsb' 96 32, b.extractLsb' 64 32, b.extractLsb' 32 32, b.extractLsb' 0 32]

end Sys2Proof.Machine
end

