-- ==== Sys2Proof/Machine/Command.lean ====
section
/-! DEFINITION. The console commands of Table 6-8 as the frame spells them (parameters of 05 6.8
and of Table 7-2), and their presence classes. -/

namespace Sys2Proof.Machine

/-- A well-formed console command: a code of Table 6-8 with its parameters. -/
inductive Command where
  | status
  | challenge
  | respond (custodian : Byte) (response : Block)
  | readEvents
  | readTamperRecord
  | logoff (custodian : Byte)
  | cancelCeremony
  | zeroize
  | measureNow
  | readEntry (index : Byte)
  | readChannel (channel : Byte)
  | readMesh
  | setEventEnables (enables : BitVec 16)
  | openCeremony (kind target generation components : Byte) (issuer : IssuerTag)
      (rights labelLength : Byte) (label : List Byte)
  | enterComponent (custodian : Byte) (block1 block2 : Block) (check : CheckValue)
  | commit (expected : CheckValue)
  | grantAllowance (index : Byte) (amount : BitVec 24)
  | revokeAllowance (index : Byte)
  | setRights (index : Byte) (rights : Byte)
  | setLabel (index : Byte) (label : List Byte)
  | suspendEntry (index : Byte)
  | resumeEntry (index : Byte)
  | retireEntry (index : Byte)
  | dropPrevious (index : Byte)
  | setAllowanceThreshold (threshold : BitVec 16)
  | channelOpen (channel : Byte)
  | channelHalt (channel : Byte)
  | channelResume (channel : Byte)
  | channelClose (channel : Byte)
  | setChannel (channel : Byte) (binding : BitVec 16) (limit : Byte)
  | flushChannel (channel : Byte)
  | writeSlotMap (length : Byte) (slots : List Byte)
  | setAssemblyTimeout (frames : BitVec 16)
  | arm
  | disarm
  | setMesh (runUp : Byte) (window : BitVec 16) (strikes drift : Byte)
  | ackTrip
  | setSupply (criterion warning : Byte)
  | enrolCustodian (custodian : Byte) (key : Key) (check : CheckValue)
  | removeCustodian (custodian : Byte)
  | unlockCustodian (custodian : Byte)
  | setWindow (length : BitVec 16)
  deriving DecidableEq, Repr

/-- The presence classes of Table 6-8. -/
inductive PresenceClass where
  | none
  | one
  | two
  deriving DecidableEq, Repr

/-- The class column of Table 6-8. -/
def Command.presenceClass : Command → PresenceClass
  | .status | .challenge | .respond .. | .readEvents | .readTamperRecord => .none
  | .logoff _ | .cancelCeremony | .zeroize | .measureNow | .readEntry _ | .readChannel _
  | .readMesh | .setEventEnables _ => .one
  | .openCeremony .. | .enterComponent .. | .commit _ | .grantAllowance .. | .revokeAllowance _
  | .setRights .. | .setLabel .. | .suspendEntry _ | .resumeEntry _ | .retireEntry _
  | .dropPrevious _ | .setAllowanceThreshold _ | .channelOpen _ | .channelHalt _
  | .channelResume _ | .channelClose _ | .setChannel .. | .flushChannel _ | .writeSlotMap ..
  | .setAssemblyTimeout _ | .arm | .disarm | .setMesh .. | .ackTrip | .setSupply ..
  | .enrolCustodian .. | .removeCustodian _ | .unlockCustodian _ | .setWindow _ => .two

/-- The three commands that are served while an erase is in progress (R92). -/
def Command.servedDuringErase : Command → Bool
  | .status | .readEvents | .readTamperRecord => true
  | _ => false

/-- The three reads that leave the window's count as it stands (R92). -/
def Command.isRead : Command → Bool
  | .readEntry _ | .readChannel _ | .readMesh => true
  | _ => false

/-- The commands that complete with their Cipher Core claim (Table 3-2, R93). -/
def Command.makesClaim : Command → Bool
  | .respond .. | .enterComponent .. | .commit _ => true
  | _ => false

/-- The commands whose own checks may decide their outcome in the step in which they are taken: those
with a Cipher Core claim, and OPEN_CEREMONY (R100, R115, R116, R119). -/
def Command.decidesAtTake : Command → Bool
  | .respond .. | .enterComponent .. | .commit _ | .openCeremony .. => true
  | _ => false

/-- The commands that complete in the step in which they are taken by their own rules: ZEROIZE
(R172) and MEASURE_NOW (R154). -/
def Command.actsAtTake : Command → Bool
  | .zeroize | .measureNow => true
  | _ => false

end Sys2Proof.Machine
end

