-- ==== Sys2Proof/Syntax.lean ====
section
/-! DEFINITION. The commands of the block: one constructor of `Instr` for each of the 47 rows of
spec/opcode_table.json. Operands carry what the step takes from outside: the words and bytes a
master sends, the parameters of a console command, and the readings and levels of the physical
world (assumption log 7 and 8). -/

namespace Sys2Proof

/-- The steps of the part, in the order of the opcode table. -/
inductive Instr where
  /-- FRAME_START (R70): HFS sampled high in the gap. -/
  | frameStart
  /-- EARLY_FRAME_SYNC (R79): HFS sampled high inside a frame. -/
  | earlyFrameSync
  /-- SLOT_WORD_FIXED (R80): the first bit period of a slot assigned to a channel. -/
  | slotWordFixed
  /-- SLOT_END (R74): the slot's last bit period. `hrd` and `hrm` are the levels on HRD and HRM over the
  slot's 32 bit periods, bit n in bit period n, of which those still to come are sampled (R69).
  `sentFirst` says which of two halves that R58 leaves in either order comes first: the reply word
  counting as sent, or the received word reaching admission (assumption log 6). -/
  | slotEnd (hrd hrm : Word) (sentFirst : Bool)
  /-- ASSEMBLY_TIMEOUT (R78): the assembly of one channel has reached the timeout setting. -/
  | assemblyTimeout (channel : ChannelNo)
  /-- HIGHWAY_RUNNING (R82): the ENABLING count reaches 64. -/
  | highwayRunning
  /-- SU_SELECTION (R26): the Service Unit takes the next request. -/
  | suSelection
  /-- CC_CLAIM_COMPLETE (R36): the last operation of the current claim is done. -/
  | ccClaimComplete
  /-- BAD_FRAME (R91): a write transaction that holds no well-formed command. -/
  | badFrame (write : WriteTransaction)
  /-- COMMAND_COMPLETE (R93): the command in progress, one without a Cipher Core claim, completes.
  `draw` is what the random source yields if that command is a CHALLENGE (assumption log 7). -/
  | commandComplete (draw : Block)
  /-- STATUS (R109). -/
  | status
  /-- CHALLENGE (R98); `draw` is the 16 bytes the random source yields (assumption log 7). -/
  | challenge (draw : Block)
  /-- RESPOND (R100). -/
  | respond (custodian : Byte) (response : Block)
  /-- READ_EVENTS (R107). -/
  | readEvents
  /-- READ_TAMPER_RECORD (R180). -/
  | readTamperRecord
  /-- LOGOFF (R104). -/
  | logoff (custodian : Byte)
  /-- CANCEL_CEREMONY (R122). -/
  | cancelCeremony
  /-- ZEROIZE (R172). -/
  | zeroize
  /-- MEASURE_NOW (R154). -/
  | measureNow
  /-- READ_ENTRY (R19). -/
  | readEntry (index : Byte)
  /-- READ_CHANNEL (R65). -/
  | readChannel (channel : Byte)
  /-- READ_MESH (R155). -/
  | readMesh
  /-- SET_EVENT_ENABLES (R108). -/
  | setEventEnables (enables : BitVec 16)
  /-- OPEN_CEREMONY (R115), parameters of Table 7-2 in order. -/
  | openCeremony (kind target generation components : Byte) (issuer : IssuerTag)
      (rights labelLength : Byte) (label : List Byte)
  /-- ENTER_COMPONENT (R116), parameters of Table 7-2 in order. -/
  | enterComponent (custodian : Byte) (block1 block2 : Block) (check : CheckValue)
  /-- COMMIT (R119). -/
  | commit (expected : CheckValue)
  /-- CABINET_SECOND_ADVANCE (R184). -/
  | cabinetSecondAdvance
  /-- WINDOW_EXPIRY (R103): the presence window's count stands at 0. -/
  | windowExpiry
  /-- CHALLENGE_EXPIRY (R99): the outstanding challenge has lived 60 seconds. -/
  | challengeExpiry
  /-- BATTERY_SAMPLE_LATCH (R166); VBAT in millivolts at the end of the settle time. -/
  | batterySampleLatch (vbat : Nat)
  /-- CONVERSION_COMPLETE (R144); `crossing` is the de-integration count at which the integrator
  output crosses zero, any number at or above 2N standing for no crossing (R138); one below the count
  that de-integration has reached stands for that count (assumption log 8). -/
  | conversionComplete (crossing : Nat)
  /-- HOLD_CONVERSION_START (R141). -/
  | holdConversionStart
  /-- LID_SAMPLE (R158): the levels sampled on LIDA and LIDB, true for open. -/
  | lidSample (aOpen bOpen : Bool)
  /-- EMZ_FALLING_EDGE (R160). -/
  | emzFallingEdge
  /-- EMZ_RISING_EDGE (R160). -/
  | emzRisingEdge
  /-- VDD_BELOW_CRITERION (R162), with the levels that stand from then on. -/
  | vddBelowCriterion (pins : SupplyPins)
  /-- VDD_AT_CRITERION (R162), with the levels that stand from then on. -/
  | vddAtCriterion (pins : SupplyPins)
  /-- LOW_TIMER_EXPIRY (R162). -/
  | lowTimerExpiry
  /-- VDD_ABOVE_RETURN_LEVEL (R163), with the levels that stand from then on. -/
  | vddAboveReturnLevel (pins : SupplyPins)
  /-- VDD_AT_RETURN_LEVEL (R163), with the levels that stand from then on. -/
  | vddAtReturnLevel (pins : SupplyPins)
  /-- RETURN_TIMER_EXPIRY (R163). -/
  | returnTimerExpiry
  /-- RESET_LOW (R186): RESET has been low for 10 µs. -/
  | resetLow
  /-- RESET_RELEASE (R186): RESET rises. -/
  | resetRelease
  /-- RETENTION_FEED_LOSS (R167). -/
  | retentionFeedLoss
  /-- COLD_START (R189): power-up, with the levels the pins have at that step. -/
  | coldStart (emzHigh : Bool) (adr : BitVec 2) (vdd : Nat)
  /-- ERASE_ENTRY (R173). -/
  | eraseEntry
  /-- COMMAND_TAKEN (R92): a write transaction that holds a well-formed command. -/
  | commandTaken (write : WriteTransaction)
  deriving DecidableEq, Repr

end Sys2Proof
end

