-- ==== Sys2Proof/Decode.lean ====
section
/-! DEFINITION. Decoding: the table gives no row any bits, so no table word spells a command; the
byte string of a write transaction is read as a console frame (R91, Tables 6-8 and 7-2). -/

namespace Sys2Proof

/-- The command that a table word spells. No row of spec/opcode_table.json gives bits, so none. -/
def decodeTableWord (_nbits _w : Nat) : Option Instr :=
  none

namespace Machine

/-- What R91 finds in the bytes of a write transaction. -/
inductive FrameReading where
  /-- A write of no bytes is no command. -/
  | emptyWrite
  /-- A malformed frame, or a length outside what Table 6-8 gives for the code. -/
  | bad
  /-- A code that Table 6-8 does not list. -/
  | unknown
  /-- A well-formed command. -/
  | command (c : Command)
  deriving DecidableEq, Repr

/-- Byte `i` of the parameters. -/
def param (p : List Byte) (i : Nat) : Byte :=
  p.getD i 0

/-- The number of width `w` that `n` parameter bytes from `i` spell. -/
def paramVec (w : Nat) (p : List Byte) (i n : Nat) : BitVec w :=
  bytesVec w ((p.drop i).take n)

/-- The codes of Table 6-8: what n may be, and the command that the parameters spell. A code that is
not listed has no answer. -/
def commandOfCode (code : Nat) (p : List Byte) : Option (Nat × Nat × Command) :=
  match code with
  | 0x01 => some (0, 0, .status)
  | 0x02 => some (0, 0, .challenge)
  | 0x03 => some (17, 17, .respond (param p 0) (paramVec 128 p 1 16))
  | 0x04 => some (0, 0, .readEvents)
  | 0x05 => some (0, 0, .readTamperRecord)
  | 0x08 => some (1, 1, .logoff (param p 0))
  | 0x09 => some (0, 0, .cancelCeremony)
  | 0x0A => some (0, 0, .zeroize)
  | 0x0B => some (0, 0, .measureNow)
  | 0x0C => some (1, 1, .readEntry (param p 0))
  | 0x0D => some (1, 1, .readChannel (param p 0))
  | 0x0E => some (0, 0, .readMesh)
  | 0x0F => some (2, 2, .setEventEnables (paramVec 16 p 0 2))
  | 0x10 => some (8, 24, .openCeremony (param p 0) (param p 1) (param p 2) (param p 3)
      (paramVec 16 p 4 2) (param p 6) (param p 7) (p.drop 8))
  | 0x11 => some (36, 36, .enterComponent (param p 0) (paramVec 128 p 1 16) (paramVec 128 p 17 16)
      (paramVec 24 p 33 3))
  | 0x12 => some (3, 3, .commit (paramVec 24 p 0 3))
  | 0x18 => some (4, 4, .grantAllowance (param p 0) (paramVec 24 p 1 3))
  | 0x19 => some (1, 1, .revokeAllowance (param p 0))
  | 0x1A => some (2, 2, .setRights (param p 0) (param p 1))
  | 0x1B => some (1, 120, .setLabel (param p 0) (p.drop 1))
  | 0x1C => some (1, 1, .suspendEntry (param p 0))
  | 0x1D => some (1, 1, .resumeEntry (param p 0))
  | 0x1E => some (1, 1, .retireEntry (param p 0))
  | 0x1F => some (1, 1, .dropPrevious (param p 0))
  | 0x20 => some (2, 2, .setAllowanceThreshold (paramVec 16 p 0 2))
  | 0x28 => some (1, 1, .channelOpen (param p 0))
  | 0x29 => some (1, 1, .channelHalt (param p 0))
  | 0x2A => some (1, 1, .channelResume (param p 0))
  | 0x2B => some (1, 1, .channelClose (param p 0))
  | 0x2C => some (4, 4, .setChannel (param p 0) (paramVec 16 p 1 2) (param p 3))
  | 0x2D => some (1, 1, .flushChannel (param p 0))
  | 0x30 => some (17, 17, .writeSlotMap (param p 0) (p.drop 1))
  | 0x31 => some (2, 2, .setAssemblyTimeout (paramVec 16 p 0 2))
  | 0x38 => some (0, 0, .arm)
  | 0x39 => some (0, 0, .disarm)
  | 0x3A => some (5, 5, .setMesh (param p 0) (paramVec 16 p 1 2) (param p 3) (param p 4))
  | 0x3B => some (0, 0, .ackTrip)
  | 0x40 => some (2, 2, .setSupply (param p 0) (param p 1))
  | 0x48 => some (36, 36, .enrolCustodian (param p 0) (paramVec 256 p 1 32) (paramVec 24 p 33 3))
  | 0x49 => some (1, 1, .removeCustodian (param p 0))
  | 0x4A => some (1, 1, .unlockCustodian (param p 0))
  | 0x4B => some (2, 2, .setWindow (paramVec 16 p 0 2))
  | _ => none

/-- The checks of R91 in their order: empty write, malformed frame, unknown code, wrong length for
the code. -/
def readFrame (bytes : List Byte) : FrameReading :=
  match bytes with
  | [] => .emptyWrite
  | [_] => .bad
  | code :: n :: p =>
    if n.toNat > Config.parameterMax || p.length != n.toNat then .bad
    else
      match commandOfCode code.toNat p with
      | none => .unknown
      | some (least, most, c) => if least ≤ p.length && p.length ≤ most then .command c else .bad

end Machine

end Sys2Proof
end

