-- ==== Sys2Proof/Machine/Aes.lean ====
section
/-! DEFINITION. The block cipher of the Cipher Core (R33). The spec names the published Advanced
Encryption Standard in its 128-bit and 256-bit variants and does not restate it (00_scope 1.6): the
algorithm below is PRESUMED from that standard (FIPS 197), unsafe, assumption log 2. -/

namespace Sys2Proof
namespace Machine
namespace Aes

/-- The substitution table, byte x at bits 8x. -/
def sboxBits : Nat :=
  0x16bb54b00f2d99416842e6bf0d89a18cdf2855cee9871e9b948ed9691198f8e19e1dc186b95735610ef6034866b53e708a8bbd4b1f74dde8c6b4a61c2e2578ba08ae7a65eaf4566ca94ed58d6d37c8e779e4959162acd3c25c2406490a3a32e0db0b5ede14b8ee4688902a22dc4f816073195d643d7ea7c41744975fec130ccdd2f3ff1021dab6bcf5389d928f40a351a89f3c507f02f94585334d43fbaaefd0cf584c4a39becb6a5bb1fc20ed00d153842fe329b3d63b52a05a6e1b1a2c830975b227ebe28012079a059618c323c7041531d871f1e5a534ccf73f362693fdb7c072a49cafa2d4adf04759fa7dc982ca76abd7fe2b670130c56f6bf27b777c63

/-- The inverse substitution table, byte x at bits 8x. -/
def invSboxBits : Nat :=
  0x7d0c2155631469e126d677ba7e042b17619953833cbbebc8b0f52aae4d3be0a0ef9cc9939f7ae52d0d4ab519a97f51605fec8027591012b131c7078833a8dd1ff45acd78fec0db9a2079d2c64b3e56fc1bbe18aa0e62b76f89c5291d711af1476edf751ce837f9e28535ade72274ac9673e6b4f0cecff297eadc674f4111913a6b8a130103bdafc1020f3fca8f1e2cd00645b3b80558e4f70ad3bc8c00abd890849d8da75746155edab9edfd5048706c92b6655dcc5ca4d41698688664f6f87225d18b6d49a25b76b224d92866a12e084ec3fa420b954cee3d23c2a632947b54cbe9dec444438e3487ff2f9b8239e37cfbd7f3819ea340bf38a53630d56a0952

/-- Byte `x` of a table held as one number. -/
def look (table : Nat) (x : Byte) : Byte :=
  BitVec.ofNat 8 (table >>> (8 * x.toNat))

/-- Multiplication by x in the cipher's field. -/
def xtime (b : Byte) : Byte :=
  (b <<< 1) ^^^ (if b.msb then 0x1b else 0)

/-- Multiplication by a small constant of the cipher's field, bit by bit over four bits. -/
def times (n : Nat) (b : Byte) : Byte :=
  let b2 := xtime b
  let b4 := xtime b2
  let b8 := xtime b4
  (if n.testBit 0 then b else 0) ^^^ (if n.testBit 1 then b2 else 0) ^^^
    (if n.testBit 2 then b4 else 0) ^^^ (if n.testBit 3 then b8 else 0)

/-- Byte `i` of a state of 16 bytes held column by column. -/
def at' (st : List Byte) (i : Nat) : Byte :=
  st.getD i 0

/-- The byte substitution of a state. -/
def subBytes (table : Nat) (st : List Byte) : List Byte :=
  st.map (look table)

/-- Row r of the state moves left by r places. -/
def shiftRows (st : List Byte) : List Byte :=
  (List.range 16).map fun i => at' st ((i + 4 * (i % 4)) % 16)

/-- Row r of the state moves right by r places. -/
def invShiftRows (st : List Byte) : List Byte :=
  (List.range 16).map fun i => at' st ((i + 12 * (i % 4)) % 16)

/-- One column times the circulant matrix whose first row is `a b c d`. -/
def mixWith (a b c d : Nat) (st : List Byte) : List Byte :=
  (List.range 16).map fun i =>
    let col := i - i % 4
    let r := i % 4
    times a (at' st (col + r)) ^^^ times b (at' st (col + (r + 1) % 4)) ^^^
      times c (at' st (col + (r + 2) % 4)) ^^^ times d (at' st (col + (r + 3) % 4))

/-- The column mixing of an encryption round. -/
def mixColumns (st : List Byte) : List Byte :=
  mixWith 2 3 1 1 st

/-- The column mixing of a decryption round. -/
def invMixColumns (st : List Byte) : List Byte :=
  mixWith 14 11 13 9 st

/-- Exclusive-or of a state with a round key. -/
def addKey (st key : List Byte) : List Byte :=
  List.zipWith (· ^^^ ·) st key

/-- Substitution of the four bytes of a key word. -/
def subWord (w : List Byte) : List Byte :=
  w.map (look sboxBits)

/-- Rotation of a key word by one byte. -/
def rotWord : List Byte → List Byte
  | [] => []
  | b :: rest => rest ++ [b]

/-- Each key word of a chunk is the chunk before's, exclusive-or the word just made; in a 256-bit
schedule the middle word is substituted first. -/
def chain (last : List Byte) (i : Nat) : List (List Byte) → List (List Byte)
  | [] => []
  | w :: rest =>
    let mixed := if i = 4 then subWord last else last
    let next := List.zipWith (· ^^^ ·) w mixed
    next :: chain next (i + 1) rest

/-- The next chunk of key words from the chunk before, with the round constant `rcon`. -/
def nextChunk (rcon : Byte) (chunk : List (List Byte)) : List (List Byte) :=
  match chunk with
  | [] => []
  | w :: rest =>
    let g := subWord (rotWord (chunk.getLastD []))
    let first := List.zipWith (· ^^^ ·) w
      (List.zipWith (· ^^^ ·) g [rcon, 0, 0, 0])
    first :: chain first 1 rest

/-- The key words of `n` further chunks. -/
def schedule : Nat → Byte → List (List Byte) → List (List Byte)
  | 0, _, chunk => chunk
  | n + 1, rcon, chunk => chunk ++ schedule n (xtime rcon) (nextChunk rcon chunk)

/-- The words of a key, four bytes each. -/
def keyWords (n : Nat) (key : List Byte) : List (List Byte) :=
  (List.range n).map fun i => (key.drop (4 * i)).take 4

/-- The first `n` round keys of a schedule. -/
def roundKeys (n : Nat) (words : List (List Byte)) : List (List Byte) :=
  (List.range n).map fun i => ((words.drop (4 * i)).take 4).flatten

/-- The eleven round keys of a 128-bit key. -/
def keys128 (key : Block) : List (List Byte) :=
  roundKeys 11 (schedule 10 1 (keyWords 4 (vecBytes 16 key)))

/-- The fifteen round keys of a 256-bit key. -/
def keys256 (key : Key) : List (List Byte) :=
  roundKeys 15 (schedule 7 1 (keyWords 8 (vecBytes 32 key)))

/-- The encryption rounds after the first key addition; the last round mixes no columns. -/
def encRounds : List (List Byte) → List Byte → List Byte
  | [], st => st
  | [k], st => addKey (shiftRows (subBytes sboxBits st)) k
  | k :: ks, st => encRounds ks (addKey (mixColumns (shiftRows (subBytes sboxBits st))) k)

/-- The decryption rounds after the first key addition; the last round mixes no columns. -/
def decRounds : List (List Byte) → List Byte → List Byte
  | [], st => st
  | [k], st => addKey (subBytes invSboxBits (invShiftRows st)) k
  | k :: ks, st => decRounds ks (invMixColumns (addKey (subBytes invSboxBits (invShiftRows st)) k))

/-- One encryption under a list of round keys. -/
def encryptWith (ks : List (List Byte)) (x : Block) : Block :=
  match ks with
  | [] => x
  | k :: rest => bytesVec 128 (encRounds rest (addKey (vecBytes 16 x) k))

/-- One decryption under a list of round keys. -/
def decryptWith (ks : List (List Byte)) (x : Block) : Block :=
  match ks.reverse with
  | [] => x
  | k :: rest => bytesVec 128 (decRounds rest (addKey (vecBytes 16 x) k))

end Aes

/-- The encryption of a block under a 32-byte key (00_scope 1.6, R33). -/
def encrypt256 (key : Key) (x : Block) : Block :=
  Aes.encryptWith (Aes.keys256 key) x

/-- The decryption of a block under a 32-byte key (R33, R117). -/
def decrypt256 (key : Key) (x : Block) : Block :=
  Aes.decryptWith (Aes.keys256 key) x

/-- The encryption of a block under a 16-byte key (00_scope 1.6, R38). -/
def encrypt128 (key : Block) (x : Block) : Block :=
  Aes.encryptWith (Aes.keys128 key) x

/-- The check value of a 32-byte key (Table 1-2). -/
def checkValue256 (key : Key) : CheckValue :=
  firstThree (encrypt256 key 0)

/-- The check value of a 16-byte key (Table 1-2). -/
def checkValue128 (key : Block) : CheckValue :=
  firstThree (encrypt128 key 0)

end Machine
end Sys2Proof
end

