-- ==== Sys2Proof/Machine/State.lean ====
section
/-! DEFINITION. The state of the part, block by block (00_scope Table 1-1), as plain data, and the
state right after the cold-start power-up step (R189). Every item is listed in INVENTORY.md. -/

namespace Sys2Proof.Machine

/-! ## Key Table (01) -/

/-- A key generation: number 1 to 255, 32-byte value and stored check value (R5). -/
structure Generation where
  number : Byte
  value : Key
  check : CheckValue
  deriving DecidableEq, Repr

/-- The fields of a non-EMPTY entry that do not depend on its keys (Table 2-1). -/
structure EntryMeta where
  label : List Byte
  issuer : IssuerTag
  rights : Byte
  allowance : Nat
  used : Nat
  committedAt : Seconds
  deriving DecidableEq, Repr

/-- A Key Table entry with the fields its state has (Table 2-1): an EMPTY entry has none, a FAULTED
entry has lost its key value and its previous generation, and an ACTIVE or SUSPENDED entry holds a
current generation and perhaps a previous one. -/
inductive Entry where
  | empty
  | held (data : EntryMeta) (suspended : Bool) (current : Generation) (previous : Option Generation)
  | faulted (data : EntryMeta) (number : Byte) (check : CheckValue)
  deriving DecidableEq, Repr

/-- The Key Table: 96 entries (R1) and the allowance-low threshold (R17). -/
structure KeyTable where
  entries : Vector Entry 96
  threshold : Nat
  deriving DecidableEq, Repr

/-! ## Channels and the service of requests (02, 03) -/

/-- The status of a highway reply (Table 5-7). -/
inductive ReplyStatus where
  | ok | broken | badLength | unknownKind | badField | limit | channelClosed | channelHalted
  | notPermitted | wrongIssuer | noEntry | suspended | noGeneration | allowanceShort | zeroized
  deriving DecidableEq, Repr

/-- The body fields of an admitted DERIVE (R25, R85, R86); `count` is k. -/
structure DeriveBody where
  entry : EntryIndex
  generation : Byte
  count : Nat
  issuer : BitVec 16
  sequence : BitVec 16
  account : BitVec 64
  deriving DecidableEq, Repr

/-- The body of an admitted request, by kind (R49). -/
inductive RequestBody where
  | derive (body : DeriveBody)
  | probe (entry : EntryIndex)
  | linkStatus
  deriving DecidableEq, Repr

/-- An admitted request (R49). -/
structure Request where
  tag : Byte
  body : RequestBody
  deriving DecidableEq, Repr

/-- A ready reply: the fields of its header and its body words (R49); its length is one more than
the number of its body words. -/
structure Reply where
  kind : KindCode
  tag : Byte
  status : ReplyStatus
  body : List Word
  deriving DecidableEq, Repr

/-- A refusal, tag and kind as received (R60). -/
structure Refused where
  kind : KindCode
  tag : Byte
  status : ReplyStatus
  superseded : Bool
  deriving DecidableEq, Repr

/-- A message being assembled (5.4): tag, kind and length of its header, the words received so far
(the header first) and the completed frames since the last word. -/
structure Assembly where
  kind : KindCode
  tag : Byte
  length : Nat
  words : List Word
  frames : Nat
  deriving DecidableEq, Repr

/-- The state of a channel (4.2). -/
inductive ChannelState where
  | closed | opened | halted
  deriving DecidableEq, Repr

/-- A channel record (Table 4-1). `sent` is present while the head reply is in transmission and
holds the number of its words already sent (R61). The in-service field is computed from the Service
Unit's record. -/
structure Channel where
  state : ChannelState
  transport : Option Generation
  binding : Option IssuerTag
  limit : Nat
  served : Nat
  requests : List Request
  replies : List Reply
  sent : Option Nat
  refusal : Option Refused
  assembly : Option Assembly
  admitted : Nat
  deriving DecidableEq, Repr

/-- The bound copies of a DERIVE in service (R32). -/
structure BoundCopies where
  master : Key
  number : Byte
  entry : EntryIndex
  transport : Key
  deriving DecidableEq, Repr

/-- The request in service (R25). Only a DERIVE that has passed its checks outlives the step of its
service start (R31, R41, R42), so the record holds a DERIVE body and bound copies
(assumption log 20). -/
structure InService where
  channel : ChannelNo
  tag : Byte
  body : DeriveBody
  bound : BoundCopies
  discard : Bool
  deriving DecidableEq, Repr

/-- The Service Unit (R25). -/
structure ServiceUnit where
  pointer : ChannelNo
  inService : Option InService
  deriving DecidableEq, Repr

/-! ## Cipher Core (3.4) -/

/-- A key of the key buffer: of 128 or of 256 bits (R33). -/
inductive CipherKey where
  | short (key : Block)
  | long (key : Key)
  deriving DecidableEq, Repr

/-- What a claim is for, with the keys and input blocks it carries (Table 3-2). -/
inductive Job where
  /-- A DERIVE: master key, transport key and the diversification blocks (R32, R38). -/
  | derive (master transport : Key) (blocks : List Block)
  /-- A RESPOND: the custodian's verification key and the challenge (R100). -/
  | respond (key : Key) (challenge : Block)
  /-- An ENTER_COMPONENT: verification key and the two encrypted blocks (R117). -/
  | component (key : Key) (block1 block2 : Block)
  /-- A COMMIT: the combined value (R119). -/
  | commit (value : Key)
  /-- The self-check of one entry: its current and, if held, its previous value (R188). -/
  | checkEntry (current : Key) (previous : Option Key)
  /-- The self-check of one transport key (R188). -/
  | checkTransport (value : Key)
  deriving DecidableEq, Repr

/-- A claim with the number of its operations done so far (R33). -/
structure Claim where
  job : Job
  done : Nat
  deriving DecidableEq, Repr

/-- A claim that waits (R33). The Service Unit's waits without its key values: until the grant they
stand in the in-service record alone, which the grant reads (R32). -/
inductive WaitingClaim where
  | service
  | held (job : Job)
  deriving DecidableEq, Repr

/-- The Cipher Core (R33). -/
structure CipherCore where
  keyBuffer : List CipherKey
  current : Option Claim
  waiting : List WaitingClaim
  deriving DecidableEq, Repr

/-! ## Line Highway Interface (04) -/

/-- A slot map: frame length S and the assignment of slots 0 to 15 (R71). -/
structure SlotMap where
  length : Nat
  slots : Vector (Option ChannelNo) 16
  deriving DecidableEq, Repr

/-- The frame position (R70). -/
inductive Position where
  | gap
  | inFrame (slot : Nat) (bit : Nat)
  deriving DecidableEq, Repr

/-- The highway state (R82), with the ENABLING count and the frame position. -/
inductive Highway where
  | off
  | enabling (count : Nat)
  | running (position : Position)
  deriving DecidableEq, Repr

/-- What the word of a slot in progress is (R61). -/
inductive WordSource where
  | body
  | header
  | refusal (refusal : Refused)
  | fill
  deriving DecidableEq, Repr

/-- The reply word in progress: its channel, data, mark and what it is (R80). -/
structure TxWord where
  channel : ChannelNo
  data : Word
  mark : Bool
  source : WordSource
  deriving DecidableEq, Repr

/-- The received word in progress: the mark, sampled on HRM in the first bit period of the slot, and
the bits sampled on HRD so far, each at its place, with 0 at the places not yet sampled (R69, R74). -/
structure RxWord where
  mark : Bool
  data : Word
  deriving DecidableEq, Repr

/-- The Line Highway Interface (Table 5-2); the assembly buffers stand in the channel records.
`compared` is the setting that the last frame completion compared with (R78; assumption log 5). -/
structure LineHighway where
  highway : Highway
  active : SlotMap
  pendingMap : Option SlotMap
  timeout : Nat
  compared : Nat
  tx : Option TxWord
  rx : Option RxWord
  deriving DecidableEq, Repr

/-! ## Custodian Interface (05) -/

/-- A status of the console port (Table 6-7). -/
inductive ConsoleStatus where
  | done | busy | starting | badFrame | unknownCommand | notPresent | needTwo | badValue | state
  | checkMismatch | locked | noChallenge | randomFault | erasing | notArmed
  deriving DecidableEq, Repr

/-- A reply frame: status and body (R93). -/
structure ReplyFrame where
  status : ConsoleStatus
  body : List Byte
  deriving DecidableEq, Repr

/-- The custodian port (Table 6-1), with the reply frame held or the command in progress. -/
inductive Port where
  | off
  | starting
  | ready (reply : Option ReplyFrame)
  | executing (command : Command)
  deriving DecidableEq, Repr

/-- The state of a custodian record (Table 6-2). -/
inductive CustodianState where
  | vacant | enrolled | locked
  deriving DecidableEq, Repr

/-- A custodian record (Table 6-2). -/
structure Custodian where
  state : CustodianState
  key : Key
  check : CheckValue
  failures : Nat
  deriving DecidableEq, Repr

/-- The presence window: remaining count, running or stopped, and the length L (R102). -/
structure PresenceWindow where
  remaining : Nat
  running : Bool
  length : Nat
  deriving DecidableEq, Repr

/-- The outstanding challenge with the reading at its draw (R98). -/
structure Challenge where
  value : Block
  drawnAt : Seconds
  deriving DecidableEq, Repr

/-- The result of the random source's last health test (R98, Table 6-5). -/
inductive TestResult where
  | noTest | passed | failed
  deriving DecidableEq, Repr

/-- The random source (R98). -/
structure RandomSource where
  lastPassed : Option Block
  test : TestResult
  deriving DecidableEq, Repr

/-- The violation latch (R107). -/
structure ViolationLatch where
  pair : Option (ChannelNo × EntryIndex)
  count : Nat
  deriving DecidableEq, Repr

/-- The Custodian Interface (Table 6-4). Place n − 1 of `custodians` is custodian n, and the
presence list names places; `flags` and `enables` have the bit order of Table 6-6. `decided` holds
the status that the checks of a command in progress have decided, until the command completes with it:
of RESPOND, ENTER_COMPONENT and COMMIT a refusal, of OPEN_CEREMONY any (R93, R100, R115, R116, R119). -/
structure CustodianInterface where
  port : Port
  decided : Option ConsoleStatus
  address : BitVec 7
  custodians : Vector Custodian 8
  presence : List CustodianNo
  window : PresenceWindow
  expiryPending : Bool
  challenge : Option Challenge
  random : RandomSource
  flags : BitVec 11
  enables : BitVec 11
  violations : ViolationLatch
  deriving DecidableEq, Repr

/-! ## Ceremony Controller (06) -/

/-- Kind and target of a ceremony, with the fields that the kind has (Table 7-1). -/
inductive CeremonyTarget where
  | newKey (entry : EntryIndex) (issuer : IssuerTag) (label : List Byte) (rights : Byte)
  | rollover (entry : EntryIndex) (issuer : IssuerTag)
  | transport (channel : ChannelNo)
  deriving DecidableEq, Repr

/-- The state of a ceremony context (R112). -/
inductive CeremonyState where
  | collecting | ready
  deriving DecidableEq, Repr

/-- The ceremony context (Table 7-1). -/
structure Ceremony where
  target : CeremonyTarget
  generation : Byte
  required : Nat
  contributors : List CustodianNo
  combined : Key
  state : CeremonyState
  deriving DecidableEq, Repr

/-! ## Tamper Monitor (07) -/

/-- The monitor state (Table 8-2). -/
inductive MonitorState where
  | unarmed | learning | armed | tripped
  deriving DecidableEq, Repr

/-- The two meshes. -/
inductive Mesh where
  | a | b
  deriving DecidableEq, Repr

/-- The record of one mesh (Table 8-1). -/
structure MeshRecord where
  learned : Nat
  baseline : Nat
  strikes : Nat
  lastM : Nat
  lastValid : Bool
  deriving DecidableEq, Repr

/-- The two phases of a conversion (R138). -/
inductive Phase where
  | runUp | deIntegrate
  deriving DecidableEq, Repr

/-- The conversion in progress: mesh, the N it runs under, phase and count (Table 8-1). -/
structure Conversion where
  mesh : Mesh
  runUpCount : Nat
  phase : Phase
  count : Nat
  deriving DecidableEq, Repr

/-- The conversion schedule (R140, R141). -/
inductive Schedule where
  | normal | hold
  deriving DecidableEq, Repr

/-- The learning record of one mesh (R149). -/
structure Tally where
  count : Nat
  sum : Nat
  least : Option Nat
  greatest : Option Nat
  deriving DecidableEq, Repr

/-- The learning record (R149). `begunBefore` is set while the conversion in progress is still the
one that was running when ARM was applied, whose reading is not taken. -/
structure Learning where
  begunBefore : Bool
  a : Tally
  b : Tally
  deriving DecidableEq, Repr

/-- The Tamper Monitor (Table 8-1). -/
structure TamperMonitor where
  state : MonitorState
  runUpCount : Nat
  window : Nat
  strikeLimit : Nat
  drift : Bool
  meshA : MeshRecord
  meshB : MeshRecord
  conversion : Option Conversion
  schedule : Schedule
  nextMesh : Mesh
  learning : Option Learning
  deriving DecidableEq, Repr

/-! ## Enclosure and Supply Sensing (08) -/

/-- The debounce of one lid contact (R158). -/
structure Lid where
  isOpen : Bool
  disagree : Nat
  deriving DecidableEq, Repr

/-- A supply timer (Table 9-1): stopped at 0, running with the elapsed time in microseconds, or
stopped at its limit. -/
inductive Timer where
  | stopped
  | running (elapsed : Nat)
  | atLimit
  deriving DecidableEq, Repr

/-- A latched battery result (R165). -/
structure BatteryResult where
  belowWarning : Bool
  belowErase : Bool
  deriving DecidableEq, Repr

/-- Enclosure and Supply Sensing (Table 9-1). `criterion` and `warning` are the codes of SET_SUPPLY
(Table 7-2); `sample` holds the settle time elapsed in microseconds. -/
structure SupplySensing where
  lidA : Lid
  lidB : Lid
  emzHigh : Bool
  criterion : Fin 4
  lowTimer : Timer
  returnTimer : Timer
  holdSent : Bool
  warning : Fin 4
  sample : Option Nat
  result : Option BatteryResult
  deriving DecidableEq, Repr

/-! ## Erase Controller (09) -/

/-- The causes of an erase, in the bit order of Table 6-9. -/
inductive Cause where
  | meshA | meshB | lid | emergency | battery | custodian
  deriving DecidableEq, Repr

/-- The Tamper Record (Table 10-3); `causes` has the bit order of Table 6-9. -/
structure TamperRecord where
  causes : BitVec 6
  firstTrigger : Seconds
  meshA : Nat
  meshB : Nat
  count : Nat
  completed : Bool
  acknowledged : Bool
  deriving DecidableEq, Repr

/-- The Erase Controller (R169): ERASING exactly while a position is present. -/
structure EraseController where
  position : Option EntryIndex
  record : TamperRecord
  deriving DecidableEq, Repr

/-! ## Power Controller (10) -/

/-- The self-check position: the entry or channel being visited (R183, R188)
(assumption log 12). -/
inductive CheckPosition where
  | entry (index : EntryIndex)
  | channel (number : ChannelNo)
  deriving DecidableEq, Repr

/-- How far a restart has come between steps of the part (R187): initialised (step 1 done, resting
while RESET is low), in the self-check of step 3 at a position, or checked (step 3 over, waiting for
an erase to complete). -/
inductive RestartStage where
  | initialised
  | checking (position : CheckPosition)
  | checked
  deriving DecidableEq, Repr

/-- The supply state (R183). A restart under way knows whether it is the one that follows a cold
start (R189). -/
inductive Supply where
  | normal
  | hold
  | restarting (stage : RestartStage) (cold : Bool)
  deriving DecidableEq, Repr

/-- The supply request PWR holds during an erase (R183). -/
inductive HeldRequest where
  | none | hold | restart
  deriving DecidableEq, Repr

/-- The Power Controller (Table 11-1). `resetHeld` remembers a RESET of 10 µs during an erase
(R178, R183); `coldPending` is set from a cold start until the restart that follows it (R189). -/
structure PowerController where
  supply : Supply
  seconds : Seconds
  restartCount : Nat
  batteryLost : Bool
  held : HeldRequest
  resetHeld : Bool
  coldPending : Bool
  deriving DecidableEq, Repr

/-! ## Pins and the whole -/

/-- The levels that stand at input pins between the steps that report their changes: VDD in
millivolts, EMZ, RESET and the address pins (00_scope 1.7), and the levels on HRD and HRM over the 32
bit periods of a slot, bit n in bit period n (R69; assumption log 6). -/
structure Pins where
  vdd : Nat
  emzHigh : Bool
  resetLow : Bool
  adr : BitVec 2
  hrd : Word
  hrm : Word
  deriving DecidableEq, Repr

/-- The state of the part, and the queue of the commands that wait, the front first. -/
structure State where
  kt : KeyTable
  su : ServiceUnit
  cc : CipherCore
  channels : Vector Channel 8
  lhi : LineHighway
  ci : CustodianInterface
  cec : Option Ceremony
  tm : TamperMonitor
  ess : SupplySensing
  ec : EraseController
  pwr : PowerController
  pins : Pins
  pending : List Instr
  deriving DecidableEq, Repr

/-- Why a step stops with a fault. -/
inductive Fault where
  /-- Raised by SU_SELECTION alone: a DERIVE that has passed its checks was taken from an OPEN channel
  that holds no transport key, which R27 and R54 exclude. Safe: the model stops in a state that the
  part cannot be in (assumption log 18). -/
  | openChannelWithoutKey
  deriving DecidableEq, Repr

/-- Why a step is refused. -/
inductive Refusal where
  /-- Raised by `exec` for a command that has no meaning yet; no arm raises it. Safe: nothing can be
  proved of a step that is refused. -/
  | notModelled (mnemonic : String)
  deriving DecidableEq, Repr

/-! ## The state after a cold start -/

/-- A vacant custodian record (R94). -/
def Custodian.vacant : Custodian :=
  { state := .vacant, key := 0, check := 0, failures := 0 }

/-- A channel record at cold start (Table 4-5). -/
def Channel.cold : Channel :=
  { state := .closed, transport := none, binding := none, limit := Config.limitInitial, served := 0,
    requests := [], replies := [], sent := none, refusal := none, assembly := none, admitted := 0 }

/-- The active slot map at cold start: S = 16, every slot NONE (R71). -/
def SlotMap.cold : SlotMap :=
  { length := 16, slots := Vector.replicate 16 none }

/-- The record of a mesh at cold start (Table 8-6). -/
def MeshRecord.cold : MeshRecord :=
  { learned := 0, baseline := 0, strikes := 0, lastM := 0, lastValid := false }

/-- A conversion at its start (R138). -/
def Conversion.start (mesh : Mesh) (n : Nat) : Conversion :=
  { mesh := mesh, runUpCount := n, phase := .runUp, count := 0 }

/-- The Tamper Record at cold start (R179). -/
def TamperRecord.cold : TamperRecord :=
  { causes := 0, firstTrigger := 0, meshA := 0, meshB := 0, count := 0, completed := false,
    acknowledged := false }

/-- The part right after the power-up step of a cold start (R189 and the Cold start columns of
Tables 2-3, 3-4, 4-5, 5-2, 6-4, 7-4, 8-6, 9-3, 10-4 and 11-4), given the levels of the pins: the
supply state is HOLD, every port is off, and the first hold conversion runs on mesh A. Both timers stand
stopped at 0 as R163 and Table 9-3 have them. Where VDD stands above the return level the return timer
runs from the step after (DEDUCED, assumption log 33). -/
def State.cold (pins : Pins) : State :=
  { kt := { entries := Vector.replicate 96 .empty, threshold := 0 }
    su := { pointer := 7, inService := none }
    cc := { keyBuffer := [], current := none, waiting := [] }
    channels := Vector.replicate 8 Channel.cold
    lhi := { highway := .off, active := SlotMap.cold, pendingMap := none,
             timeout := Config.timeoutInitial, compared := Config.timeoutInitial, tx := none,
             rx := none }
    ci := { port := .off, decided := none, address := 0x58,
            custodians := Vector.replicate 8 Custodian.vacant,
            presence := [],
            window := { remaining := 0, running := false, length := Config.windowInitial },
            expiryPending := false, challenge := none,
            random := { lastPassed := none, test := .noTest }, flags := 0, enables := 0,
            violations := { pair := none, count := 0 } }
    cec := none
    tm := { state := .unarmed, runUpCount := 2048, window := 96, strikeLimit := 2, drift := true,
            meshA := MeshRecord.cold, meshB := MeshRecord.cold,
            conversion := some (Conversion.start .a Config.holdRunUp), schedule := .hold,
            nextMesh := .b, learning := none }
    ess := { lidA := { isOpen := false, disagree := 0 }, lidB := { isOpen := false, disagree := 0 },
             emzHigh := pins.emzHigh, criterion := 1, lowTimer := .stopped, returnTimer := .stopped,
             holdSent := false, warning := 1, sample := none, result := none }
    ec := { position := none, record := TamperRecord.cold }
    pwr := { supply := .hold, seconds := 0, restartCount := 0, batteryLost := false, held := .none,
             resetHeld := false, coldPending := true }
    pins := pins
    pending := [] }

/-- The machine right after reset: a new part just powered up (R189), nothing waiting, with EMZ and
RESET high, both address pins and the engine's two lines low and VDD not yet risen (pin levels: DESIGN
CHOICE, unsafe, assumption log 14). -/
def State.reset : State :=
  State.cold { vdd := 0, emzHigh := true, resetLow := false, adr := 0, hrd := 0, hrm := 0 }

end Sys2Proof.Machine
end

