-- ==== Sys2Proof/Machine/Flags.lean ====
section
/-! DEFINITION. The event flags, their enables, ATTN and the violation latch (05 6.5), and the named
replacements of one block of State. -/

namespace Sys2Proof.Machine

/-! ## Replacing one block -/

/-- The state with another Key Table. -/
def State.withKt (s : State) (x : KeyTable) : State := { s with kt := x }
/-- The state with another Service Unit. -/
def State.withSu (s : State) (x : ServiceUnit) : State := { s with su := x }
/-- The state with another Cipher Core. -/
def State.withCc (s : State) (x : CipherCore) : State := { s with cc := x }
/-- The state with other channel records. -/
def State.withChannels (s : State) (x : Vector Channel 8) : State := { s with channels := x }
/-- The state with another Line Highway Interface. -/
def State.withLhi (s : State) (x : LineHighway) : State := { s with lhi := x }
/-- The state with another Custodian Interface. -/
def State.withCi (s : State) (x : CustodianInterface) : State := { s with ci := x }
/-- The state with another ceremony context. -/
def State.withCec (s : State) (x : Option Ceremony) : State := { s with cec := x }
/-- The state with another Tamper Monitor. -/
def State.withTm (s : State) (x : TamperMonitor) : State := { s with tm := x }
/-- The state with another supply sensing block. -/
def State.withEss (s : State) (x : SupplySensing) : State := { s with ess := x }
/-- The state with another Erase Controller. -/
def State.withEc (s : State) (x : EraseController) : State := { s with ec := x }
/-- The state with another Power Controller. -/
def State.withPwr (s : State) (x : PowerController) : State := { s with pwr := x }
/-- The state with other pin levels. -/
def State.withPins (s : State) (x : Pins) : State := { s with pins := x }
/-- The state with another queue of waiting commands. -/
def State.withPending (s : State) (x : List Instr) : State := { s with pending := x }

/-! ## Events -/

/-- The eleven events of Table 6-3. -/
inductive Event where
  | tamperStrike | eraseDone | windowExpired | rightsViolation | allowanceLow | entryFault
  | frameSlip | batteryWeak | armResult | custodianLocked | restarted
  deriving DecidableEq, Repr

/-- The bit of an event in the flags and the enables (Table 6-6). -/
def Event.bit : Event → Nat
  | .tamperStrike => 0
  | .eraseDone => 1
  | .windowExpired => 2
  | .rightsViolation => 3
  | .allowanceLow => 4
  | .entryFault => 5
  | .frameSlip => 6
  | .batteryWeak => 7
  | .armResult => 8
  | .custodianLocked => 9
  | .restarted => 10

/-- The flags with the flag of one event set, whatever its enable (R105). -/
def setFlag (e : Event) (flags : BitVec 11) : BitVec 11 :=
  flags ||| BitVec.ofNat 11 (1 <<< e.bit)

/-- An event reaches its flag (R105). -/
def State.raiseEvent (e : Event) (s : State) : State :=
  s.withCi { s.ci with flags := setFlag e s.ci.flags }

/-- An event that is raised only if `b` holds. -/
def State.raiseIf (b : Bool) (e : Event) (s : State) : State :=
  if b then s.raiseEvent e else s

/-- Whether an event's flag is set. -/
def State.flag (e : Event) (s : State) : Bool :=
  s.ci.flags.getLsbD e.bit

/-- Whether ATTN is driven low: in every port state but OFF, while a flag is both set and enabled
(R106). -/
def State.attnLow (s : State) : Bool :=
  match s.ci.port with
  | .off => false
  | .starting | .ready _ | .executing _ => s.ci.flags &&& s.ci.enables != 0

/-- The empty violation latch (R107). -/
def ViolationLatch.clear : ViolationLatch :=
  { pair := none, count := 0 }

/-- A rights violation reaches the latch: the first pair stays, the count saturates at 255 (R107). -/
def ViolationLatch.record (channel : ChannelNo) (entry : EntryIndex) (v : ViolationLatch) :
    ViolationLatch :=
  { pair := some (v.pair.getD (channel, entry)), count := min (v.count + 1) Config.violationMax }

/-- A rights violation reported by the Service Unit raises RIGHTS_VIOLATION and updates the latch
(R30, R107). -/
def State.reportViolation (channel : ChannelNo) (entry : EntryIndex) (s : State) : State :=
  let s := s.raiseEvent .rightsViolation
  s.withCi { s.ci with violations := s.ci.violations.record channel entry }

end Sys2Proof.Machine
end

