-- ==== Sys2Proof/Machine/Operands.lean ====
section
/-! DEFINITION. The operand forms: fields of highway words (04 5.9), numbers of console parameters
(05 6.8), and the codes and layouts of what the part sends (Tables 5-6 to 5-8, 6-5 to 6-9). -/

namespace Sys2Proof.Machine

/-! ## Request words (R85, R86) -/

/-- Kind, bits 31–30 of a header. -/
def headerKind (w : Word) : KindCode := w.extractLsb' 30 2
/-- Length, bits 29–25 of a header. -/
def headerLength (w : Word) : Nat := (w.extractLsb' 25 5).toNat
/-- Tag, bits 24–17 of a header. -/
def headerTag (w : Word) : Byte := w.extractLsb' 17 8
/-- Entry index of a DERIVE header, bits 16–10. -/
def headerEntry (w : Word) : Nat := (w.extractLsb' 10 7).toNat
/-- Count k of a DERIVE header: bits 9–8 hold k − 1. -/
def headerCount (w : Word) : Nat := (w.extractLsb' 8 2).toNat + 1
/-- Requested generation of a DERIVE header, bits 7–0. -/
def headerGeneration (w : Word) : Byte := w.extractLsb' 0 8

/-- Kind codes of Table 5-4. -/
def kindDerive : KindCode := 1
/-- Kind code of PROBE (Table 5-4). -/
def kindProbe : KindCode := 2
/-- Kind code of LINK_STATUS (Table 5-4). -/
def kindLinkStatus : KindCode := 3

/-- The kind of an admitted request. -/
def RequestBody.kind : RequestBody → KindCode
  | .derive _ => kindDerive
  | .probe _ => kindProbe
  | .linkStatus => kindLinkStatus

/-- An index as a Key Table index, if it is one (R1). -/
def entryIndex? (i : Nat) : Option EntryIndex :=
  if h : i < 96 then some ⟨i, h⟩ else none

/-- A number as a channel number, if it is one (R49). -/
def channelNo? (c : Nat) : Option ChannelNo :=
  if h : c < 8 then some ⟨c, h⟩ else none

/-- A custodian number 1 to 8 as a place of the table (R94). -/
def custodianNo? (n : Byte) : Option CustodianNo :=
  if h : 1 ≤ n.toNat ∧ n.toNat ≤ 8 then some ⟨n.toNat - 1, by omega⟩ else none

/-- The custodian number of a place of the table. -/
def custodianByte (c : CustodianNo) : Byte :=
  BitVec.ofNat 8 (c.val + 1)

/-! ## Reply words (R87, R88) -/

/-- Reply status codes of Table 5-7. -/
def ReplyStatus.code : ReplyStatus → Nat
  | .ok => 0 | .broken => 1 | .badLength => 2 | .unknownKind => 3 | .badField => 4 | .limit => 5
  | .channelClosed => 6 | .channelHalted => 7 | .notPermitted => 8 | .wrongIssuer => 9
  | .noEntry => 10 | .suspended => 11 | .noGeneration => 12 | .allowanceShort => 13
  | .zeroized => 14

/-- The reply header of Table 5-6. -/
def replyHeader (kind : KindCode) (length : Nat) (tag : Byte) (superseded : Bool)
    (status : ReplyStatus) : Word :=
  kind ++ BitVec.ofNat 5 length ++ tag ++ BitVec.ofBool superseded ++ (0 : BitVec 10) ++
    BitVec.ofNat 6 status.code

/-- The length of a reply in words, header included. -/
def Reply.length (r : Reply) : Nat :=
  r.body.length + 1

/-- The header word of a reply of the reply queue; its superseded flag is clear (R61). -/
def Reply.header (r : Reply) : Word :=
  replyHeader r.kind r.length r.tag false r.status

/-- Word `i` of a reply, the header being word 0. -/
def Reply.word (r : Reply) (i : Nat) : Word :=
  match i with
  | 0 => r.header
  | j + 1 => r.body.getD j 0

/-- A reply of one word (R31, R53, R66). -/
def Reply.headerOnly (kind : KindCode) (tag : Byte) (status : ReplyStatus) : Reply :=
  { kind := kind, tag := tag, status := status, body := [] }

/-- The one-word reply that answers a request with a status. -/
def Request.answer (r : Request) (status : ReplyStatus) : Reply :=
  Reply.headerOnly r.body.kind r.tag status

/-- The word of a refusal: length 1, with its superseded flag (R61). -/
def Refused.word (r : Refused) : Word :=
  replyHeader r.kind 1 r.tag r.superseded r.status

/-- Channel state codes of Tables 5-8 and 6-9. -/
def ChannelState.code : ChannelState → Nat
  | .closed => 0 | .opened => 1 | .halted => 2

/-- Tamper monitor state codes of Tables 5-8 and 6-5. -/
def MonitorState.code : MonitorState → Nat
  | .unarmed => 0 | .learning => 1 | .armed => 2 | .tripped => 3

/-! ## Console codes (Tables 6-5, 6-7, 6-9) -/

/-- Custodian status codes of Table 6-7. -/
def ConsoleStatus.code : ConsoleStatus → Byte
  | .done => 0x00 | .busy => 0x01 | .starting => 0x02 | .badFrame => 0x03
  | .unknownCommand => 0x04 | .notPresent => 0x05 | .needTwo => 0x06 | .badValue => 0x07
  | .state => 0x08 | .checkMismatch => 0x09 | .locked => 0x0A | .noChallenge => 0x0B
  | .randomFault => 0x0C | .erasing => 0x0D | .notArmed => 0x0E

/-- Custodian state codes of Table 6-5. -/
def CustodianState.code : CustodianState → Nat
  | .vacant => 0 | .enrolled => 1 | .locked => 2

/-- Random source codes of Table 6-5. -/
def TestResult.code : TestResult → Nat
  | .noTest => 0 | .passed => 1 | .failed => 2

/-- Ceremony kind codes of Tables 6-5 and 7-2. -/
def CeremonyTarget.code : CeremonyTarget → Nat
  | .newKey .. => 1 | .rollover .. => 2 | .transport _ => 3

/-- Ceremony state codes of Table 6-5. -/
def CeremonyState.code : CeremonyState → Nat
  | .collecting => 1 | .ready => 2

/-- The bit of a cause in the Tamper Record (Table 6-9). -/
def Cause.bit : Cause → Nat
  | .meshA => 0 | .meshB => 1 | .lid => 2 | .emergency => 3 | .battery => 4 | .custodian => 5

/-- The set that holds one cause alone. -/
def Cause.set (c : Cause) : BitVec 6 :=
  BitVec.ofNat 6 (1 <<< c.bit)

/-! ## Slot maps (Table 7-2, R129) -/

/-- A slot byte: 0 to 7 a channel, FFh NONE; any other has no meaning. -/
def slotAssignment? (b : Byte) : Option (Option ChannelNo) :=
  if b = 0xFF then some none else (channelNo? b.toNat).map some

/-- The sixteen slot bytes as assignments, if each is in range. -/
def slotList? (bytes : List Byte) : Option (Vector (Option ChannelNo) 16) :=
  let places := (List.range 16).map fun i => slotAssignment? (bytes.getD i 0)
  if bytes.length = 16 ∧ places.all Option.isSome then
    some (Vector.ofFn fun i => (places.getD i.val none).getD none)
  else none

/-- The map that WRITE_SLOT_MAP carries, if S and every slot byte are in range (R129). -/
def slotMap? (length : Byte) (slots : List Byte) : Option SlotMap :=
  if 2 ≤ length.toNat ∧ length.toNat ≤ 16 then
    (slotList? slots).map fun v => { length := length.toNat, slots := v }
  else none

/-- The channel that a map assigns a slot to. -/
def SlotMap.channel (m : SlotMap) (slot : Nat) : Option ChannelNo :=
  if h : slot < 16 then m.slots[slot] else none

/-! ## Settings codes (Table 7-2) -/

/-- The supply criterion of a code, in millivolts. -/
def criterionMv (code : Fin 4) : Nat :=
  3000 - 50 * code.val

/-- The return level of a code: the criterion plus 0.10 V (R163). -/
def returnMv (code : Fin 4) : Nat :=
  criterionMv code + 100

/-- The battery warning level of a code, in millivolts. -/
def warningMv (code : Fin 4) : Nat :=
  2900 - 100 * code.val

/-- A code byte 0 to 3. -/
def code4? (b : Byte) : Option (Fin 4) :=
  if h : b.toNat < 4 then some ⟨b.toNat, h⟩ else none

end Sys2Proof.Machine
end

