-- ==== Sys2Proof/Machine/KeyTable.lean ====
section
/-! DEFINITION. What the Key Table does with each request, entry by entry (01). An operation that an
entry's state gives no effect answers none: the request is refused with STATE (2.3). -/

namespace Sys2Proof.Machine

/-! ## Reading an entry -/

/-- The policy fields of a non-EMPTY entry. -/
def Entry.data? : Entry → Option EntryMeta
  | .empty => none
  | .held d _ _ _ => some d
  | .faulted d _ _ => some d

/-- The rights set; the empty set when EMPTY (Table 2-1). -/
def Entry.rights (e : Entry) : Byte :=
  match e.data? with
  | none => 0
  | some d => d.rights

/-- The allowance; 0 when EMPTY (Table 2-1). -/
def Entry.allowance (e : Entry) : Nat :=
  match e.data? with
  | none => 0
  | some d => d.allowance

/-- The used count; 0 when EMPTY (Table 2-1). -/
def Entry.used (e : Entry) : Nat :=
  match e.data? with
  | none => 0
  | some d => d.used

/-- The entry is EMPTY. -/
def Entry.isEmpty : Entry → Bool
  | .empty => true
  | .held .. | .faulted .. => false

/-- The entry is ACTIVE or SUSPENDED: it holds a key value (R2, R166). -/
def Entry.isHeld : Entry → Bool
  | .held .. => true
  | .empty | .faulted .. => false

/-- The current generation of an ACTIVE or SUSPENDED entry. -/
def Entry.current? : Entry → Option Generation
  | .held _ _ g _ => some g
  | .empty | .faulted .. => none

/-- The generation that the requested number selects: 0 or the current number the current one, the
number of a present previous generation that one, any other none (R6). -/
def Entry.select (requested : Byte) : Entry → Option Generation
  | .held _ _ current previous =>
    if requested = 0 ∨ requested = current.number then some current
    else
      match previous with
      | some p => if requested = p.number then some p else none
      | none => none
  | .empty | .faulted .. => none

/-- Whether a channel is in a rights set. -/
def hasRight (rights : Byte) (c : ChannelNo) : Bool :=
  rights.getLsbD c.val

/-! ## Changing an entry -/

/-- An entry with other policy fields. -/
def Entry.setData (d : EntryMeta) : Entry → Entry
  | .empty => .empty
  | .held _ suspended current previous => .held d suspended current previous
  | .faulted _ number check => .faulted d number check

/-- SET_LABEL, its characters already checked (R3). -/
def Entry.setLabel (label : List Byte) (e : Entry) : Option Entry :=
  e.data?.map fun d => e.setData { d with label := label }

/-- SET_RIGHTS (R4, R126). -/
def Entry.setRights (rights : Byte) (e : Entry) : Option Entry :=
  e.data?.map fun d => e.setData { d with rights := rights }

/-- SUSPEND_ENTRY (R9). -/
def Entry.suspend : Entry → Option Entry
  | .held d false current previous => some (.held d true current previous)
  | .held _ true _ _ | .empty | .faulted .. => none

/-- RESUME_ENTRY (R9). -/
def Entry.resume : Entry → Option Entry
  | .held d true current previous => some (.held d false current previous)
  | .held _ false _ _ | .empty | .faulted .. => none

/-- DROP_PREVIOUS (R10). -/
def Entry.dropPrevious : Entry → Option Entry
  | .held d suspended current (some _) => some (.held d suspended current none)
  | .held _ _ _ none | .empty | .faulted .. => none

/-- RETIRE_ENTRY (R11). -/
def Entry.retire : Entry → Option Entry
  | .empty => none
  | .held .. | .faulted .. => some .empty

/-- GRANT_ALLOWANCE, clamped at the largest allowance (R13). -/
def Entry.grant (amount : Nat) : Entry → Option Entry
  | .held d suspended current previous =>
    some (.held { d with allowance := min (d.allowance + amount) Config.allowanceMax }
      suspended current previous)
  | .empty | .faulted .. => none

/-- REVOKE_ALLOWANCE (R14). -/
def Entry.revoke (e : Entry) : Option Entry :=
  e.data?.map fun d => e.setData { d with allowance := 0 }

/-- The charge of a DERIVE: the allowance falls by k and the used count rises by k, saturating
(R15, R16). -/
def Entry.charge (k : Nat) (e : Entry) : Entry :=
  match e.data? with
  | none => e
  | some d =>
    e.setData { d with allowance := d.allowance - k, used := min (d.used + k) Config.countMax }

/-- A NEW_KEY install into an EMPTY or FAULTED entry (R7). -/
def Entry.installNewKey (issuer : IssuerTag) (label : List Byte) (rights : Byte) (g : Generation)
    (now : Seconds) : Entry → Option Entry
  | .empty | .faulted .. =>
    some (.held { label := label, issuer := issuer, rights := rights, allowance := 0, used := 0,
                  committedAt := now } false g none)
  | .held .. => none

/-- A ROLLOVER install: the issuer must match and the number must be greater (R8). -/
def Entry.installRollover (issuer : IssuerTag) (g : Generation) (now : Seconds) :
    Entry → Option Entry
  | .held d suspended current _ =>
    if d.issuer = issuer ∧ current.number < g.number then
      some (.held { d with committedAt := now } suspended g (some current))
    else none
  | .empty | .faulted .. => none

/-- The outcome of the self-check for an entry, from the recomputed check values, and whether
ENTRY_FAULT is raised (R12). -/
def Entry.selfCheck (currentCheck : CheckValue) (previousCheck : CheckValue) :
    Entry → Entry × Bool
  | .held d suspended current previous =>
    if currentCheck ≠ current.check then (.faulted d current.number current.check, true)
    else
      match previous with
      | none => (.held d suspended current none, false)
      | some p =>
        if previousCheck ≠ p.check then (.held d suspended current none, true)
        else (.held d suspended current (some p), false)
  | .empty => (.empty, false)
  | .faulted d number check => (.faulted d number check, false)

/-! ## Entries of the state -/

/-- The entry at an index (R1). -/
def State.entry (i : EntryIndex) (s : State) : Entry :=
  s.kt.entries[i]

/-- The state with one entry replaced, every other entry as it stands (R1). -/
def State.setEntry (i : EntryIndex) (e : Entry) (s : State) : State :=
  s.withKt { s.kt with entries := s.kt.entries.set i e }

/-- Whether key material is present: an ACTIVE or SUSPENDED entry, or a channel with a transport key
(R166). -/
def State.keyMaterial (s : State) : Bool :=
  s.kt.entries.toList.any Entry.isHeld || s.channels.toList.any fun c => c.transport.isSome

/-- Every entry is EMPTY. -/
def State.tableEmpty (s : State) : Bool :=
  s.kt.entries.toList.all Entry.isEmpty

/-- No channel holds a transport key. -/
def State.noTransportKeys (s : State) : Bool :=
  s.channels.toList.all fun c => c.transport.isNone

/-- Whether a charge that takes an allowance from `before` to `after` crosses the threshold (R18). -/
def crossesThreshold (threshold before after : Nat) : Bool :=
  threshold != 0 && decide (threshold ≤ before) && decide (after < threshold)

end Sys2Proof.Machine
end

