-- ==== Sys2Proof/Machine/Channels.lean ====
section
/-! DEFINITION. What the Channel Unit does with a channel record: admission, refusals, replies, the
channel commands and the whole-part events (03), and message assembly (04 5.4). -/

namespace Sys2Proof.Machine

/-! ## Records of the state -/

/-- The record of a channel (R49). -/
def State.channel (c : ChannelNo) (s : State) : Channel :=
  s.channels[c]

/-- The state with one channel record replaced, every other record as it stands (R49). -/
def State.setChannel (c : ChannelNo) (ch : Channel) (s : State) : State :=
  s.withChannels (s.channels.set c ch)

/-- The state with one channel record changed by `f`. -/
def State.mapChannel (c : ChannelNo) (f : Channel → Channel) (s : State) : State :=
  s.setChannel c (f (s.channel c))

/-- The in-service field of a channel, computed from the Service Unit's record (Table 4-1). -/
def State.channelInService (c : ChannelNo) (s : State) : Bool :=
  match s.su.inService with
  | none => false
  | some r => r.channel == c

/-! ## The refusal register (R60) -/

/-- A refusal is placed in the register; one that replaces another carries the superseded flag. -/
def Channel.refuse (kind : KindCode) (tag : Byte) (status : ReplyStatus) (ch : Channel) : Channel :=
  { ch with refusal := some { kind := kind, tag := tag, status := status,
                              superseded := ch.refusal.isSome } }

/-- A refusal whose slot was cut returns: to a free register as it was, else it is dropped and the
newer one's superseded flag is set (R61) (assumption log 21). -/
def Channel.returnRefusal (r : Refused) (ch : Channel) : Channel :=
  match ch.refusal with
  | none => { ch with refusal := some r }
  | some newer => { ch with refusal := some { newer with superseded := true } }

/-! ## Admission (R56, R57) -/

/-- The length a request of each kind has (Table 5-4). -/
def requestLength? (kind : KindCode) : Option Nat :=
  if kind = kindDerive then some 4
  else if kind = kindProbe then some 2
  else if kind = kindLinkStatus then some 1
  else none

/-- The body fields of a DERIVE message, if each is in range (R57, R85, R86). -/
def deriveBody? (words : List Word) : Option DeriveBody :=
  let header := words.getD 0 0
  let first := words.getD 1 0
  let k := headerCount header
  let sequence : BitVec 16 := first.extractLsb' 0 16
  match entryIndex? (headerEntry header) with
  | none => none
  | some entry =>
    if sequence.toNat + k - 1 > 65535 then none
    else
      some { entry := entry, generation := headerGeneration header, count := k,
             issuer := first.extractLsb' 16 16, sequence := sequence,
             account := words.getD 2 0 ++ words.getD 3 0 }

/-- The entry index of a PROBE message, if it is in range (R57, R86). -/
def probeEntry? (words : List Word) : Option EntryIndex :=
  entryIndex? ((words.getD 1 0).extractLsb' 24 8).toNat

/-- The body of a request, if its fields are in range (check 4 of Table 4-3). -/
def requestBody? (kind : KindCode) (words : List Word) : Option RequestBody :=
  if kind = kindDerive then (deriveBody? words).map .derive
  else if kind = kindProbe then (probeEntry? words).map .probe
  else some .linkStatus

/-- The outcome of the admission checks of Table 4-3, in their order: the status of the first check
that fails, or the body to admit. -/
def Channel.admission (kind : KindCode) (length : Nat) (words : List Word) (ch : Channel) :
    ReplyStatus ⊕ RequestBody :=
  match ch.state with
  | .closed => .inl .channelClosed
  | .halted => .inl .channelHalted
  | .opened =>
    match requestLength? kind with
    | none => .inl .unknownKind
    | some n =>
      if length ≠ n then .inl .badLength
      else
        match requestBody? kind words with
        | none => .inl .badField
        | some body => if ch.limit ≤ ch.admitted then .inl .limit else .inr body

/-- A completed message is admitted to the tail of the request queue or refused (R56). -/
def Channel.deliver (kind : KindCode) (tag : Byte) (length : Nat) (words : List Word)
    (ch : Channel) : Channel :=
  match ch.admission kind length words with
  | .inl status => ch.refuse kind tag status
  | .inr body =>
    { ch with requests := ch.requests ++ [{ tag := tag, body := body }],
              admitted := ch.admitted + 1 }

/-! ## Assembly (R75 to R79) -/

/-- An assembly in progress is discarded with a BROKEN refusal (R75, R78, R79). -/
def Channel.breakAssembly (ch : Channel) : Channel :=
  match ch.assembly with
  | none => ch
  | some a => { ch.refuse a.kind a.tag .broken with assembly := none }

/-- A header word (R75). -/
def Channel.takeHeader (w : Word) (ch : Channel) : Channel :=
  let ch := ch.breakAssembly
  let n := headerLength w
  if n = 0 ∨ n > Config.messageMax then ch.refuse (headerKind w) (headerTag w) .badLength
  else if n = 1 then ch.deliver (headerKind w) (headerTag w) 1 [w]
  else
    { ch with assembly := some { kind := headerKind w, tag := headerTag w, length := n,
                                 words := [w], frames := 0 } }

/-- A mark-0 word: idle, or the next body word (R76). -/
def Channel.takeBody (w : Word) (ch : Channel) : Channel :=
  match ch.assembly with
  | none => ch
  | some a =>
    let words := a.words ++ [w]
    if a.length ≤ words.length then
      { ch with assembly := none }.deliver a.kind a.tag a.length words
    else { ch with assembly := some { a with words := words, frames := 0 } }

/-- The word received in a slot of the channel (R74). -/
def Channel.receive (mark : Bool) (w : Word) (ch : Channel) : Channel :=
  if mark then ch.takeHeader w else ch.takeBody w

/-- The assembly is discarded if its frame count has reached the setting (R78). -/
def Channel.timeOut (setting : Nat) (ch : Channel) : Channel :=
  match ch.assembly with
  | none => ch
  | some a => if setting ≤ a.frames then ch.breakAssembly else ch

/-- A frame completes: the frame count of an assembly rises and is compared (R78). -/
def Channel.countFrame (setting : Nat) (ch : Channel) : Channel :=
  match ch.assembly with
  | none => ch
  | some a => { ch with assembly := some { a with frames := a.frames + 1 } }.timeOut setting

/-! ## Replies (R61, R62, R80) -/

/-- A reply joins the tail of the reply queue (R62). -/
def Channel.addReply (r : Reply) (ch : Channel) : Channel :=
  { ch with replies := ch.replies ++ [r] }

/-- The Channel Unit's choice of the word for a slot: the next word of a reply in transmission, the
refusal, the header of the next reply, or a fill word; with what the choice changes (R61). -/
def Channel.chooseWord (c : ChannelNo) (ch : Channel) : TxWord × Channel :=
  let fill : TxWord := { channel := c, data := 0, mark := false, source := .fill }
  match ch.replies, ch.sent with
  | r :: _, some n =>
    ({ channel := c, data := r.word n, mark := n == 0,
       source := if n = 0 then .header else .body }, ch)
  | replies, _ =>
    match ch.refusal with
    | some f =>
      ({ channel := c, data := f.word, mark := true, source := .refusal f },
        { ch with refusal := none })
    | none =>
      match replies with
      | r :: _ =>
        ({ channel := c, data := r.header, mark := true, source := .header },
          { ch with sent := some 0 })
      | [] => (fill, ch)

/-- One more word of the reply in transmission counts as sent; with its last word the reply leaves
the queue and the admitted count falls (R50, R61). -/
def Channel.countSent (ch : Channel) : Channel :=
  match ch.replies with
  | [] => ch
  | r :: rest =>
    let n := ch.sent.getD 0 + 1
    if r.length ≤ n then { ch with replies := rest, sent := none, admitted := ch.admitted - 1 }
    else { ch with sent := some n }

/-- The word of a slot counts as sent at the slot's last bit period (R80). -/
def Channel.wordSent (source : WordSource) (ch : Channel) : Channel :=
  match source with
  | .header | .body => ch.countSent
  | .refusal _ | .fill => ch

/-- The word of a slot is cut by an early frame sync: a header's reply returns to not started, a
refusal returns to the register, a body word is chosen again (R79, R80). -/
def Channel.wordCut (source : WordSource) (ch : Channel) : Channel :=
  match source with
  | .header => { ch with sent := none }
  | .refusal r => ch.returnRefusal r
  | .body | .fill => ch

/-! ## Channel commands (R51 to R55, R63) -/

/-- CHANNEL_OPEN; none when refused with STATE (R51). -/
def Channel.openUp (ch : Channel) : Option Channel :=
  match ch.state, ch.transport with
  | .closed, some _ => some { ch with state := .opened, served := 0 }
  | .closed, none | .opened, _ | .halted, _ => none

/-- CHANNEL_HALT; none when refused with STATE (R52). -/
def Channel.halt (ch : Channel) : Option Channel :=
  match ch.state with
  | .opened => some { ch with state := .halted }
  | .closed | .halted => none

/-- CHANNEL_RESUME; none when refused with STATE (R52). -/
def Channel.resume (ch : Channel) : Option Channel :=
  match ch.state with
  | .halted => some { ch with state := .opened }
  | .closed | .opened => none

/-- CHANNEL_CLOSE: each waiting request becomes a CHANNEL_CLOSED reply, oldest first (R53). -/
def Channel.close (ch : Channel) : Channel :=
  { ch with state := .closed,
            replies := ch.replies ++ ch.requests.map fun r => r.answer .channelClosed,
            requests := [] }

/-- The head reply if it is in transmission: what a flush keeps (R63). -/
def Channel.inTransmission (ch : Channel) : List Reply :=
  match ch.sent with
  | none => []
  | some _ => ch.replies.take 1

/-- FLUSH_CHANNEL, apart from the discard mark (R63, R50). -/
def Channel.flush (ch : Channel) : Channel :=
  { ch with requests := [], replies := ch.inTransmission, refusal := none, assembly := none,
            admitted := ch.admitted -
              (ch.requests.length + (ch.replies.length - ch.inTransmission.length)) }

/-- SET_CHANNEL, its values already checked (R55). -/
def Channel.configure (binding : BitVec 16) (limit : Nat) (ch : Channel) : Channel :=
  { ch with binding := if binding = 0 then none else some binding, limit := limit }

/-- Whether a transport key of this number may be installed (R54, R115). -/
def Channel.acceptsTransport (number : Byte) (ch : Channel) : Bool :=
  match ch.transport with
  | none => true
  | some g => decide (g.number < number)

/-- A TRANSPORT install; none when refused with STATE (R54). -/
def Channel.installTransport (g : Generation) (ch : Channel) : Option Channel :=
  if ch.acceptsTransport g.number then some { ch with transport := some g } else none

/-- The outcome of the self-check for a transport key, and whether ENTRY_FAULT is raised (R54). -/
def Channel.selfCheck (check : CheckValue) (ch : Channel) : Channel × Bool :=
  match ch.transport with
  | none => (ch, false)
  | some g =>
    if check ≠ g.check then ({ ch with transport := none, state := .closed }, true) else (ch, false)

/-! ## Whole-part events (R66, R67) -/

/-- Hold entry and restart: the working state of a channel is lost without replies (R67). -/
def Channel.loseWork (ch : Channel) : Channel :=
  { ch with requests := [], replies := [], sent := none, refusal := none, assembly := none,
            admitted := 0 }

/-- A reply in transmission of which `n` words are sent: its remaining body words become zero words
(R66). Word `i + 1` of the reply is body word `i` (assumption log 25). -/
def Reply.zeroRest (n : Nat) (r : Reply) : Reply :=
  { r with body := r.body.mapIdx fun i w => if i + 1 < n then w else 0 }

/-- A reply that has not started is replaced by a ZEROIZED one (R66). -/
def Reply.zeroized (r : Reply) : Reply :=
  Reply.headerOnly r.kind r.tag .zeroized

/-- The reply queue as the erase start leaves its old replies (R66). -/
def Channel.erasedReplies (ch : Channel) : List Reply :=
  match ch.replies, ch.sent with
  | r :: rest, some n => r.zeroRest n :: rest.map Reply.zeroized
  | replies, _ => replies.map Reply.zeroized

/-- The erase start at one channel (R66). `ended` is the request in service if it belongs to this
channel: its reply unless its discard mark is set, in which case it leaves the admitted count. -/
def Channel.eraseStart (ended : Option InService) (ch : Channel) : Channel :=
  let answered :=
    match ended with
    | some r => if r.discard then [] else [Reply.headerOnly kindDerive r.tag .zeroized]
    | none => []
  let dropped :=
    match ended with
    | some r => r.discard
    | none => false
  { ch with transport := none, state := .closed,
            replies := ch.erasedReplies ++ answered ++
              ch.requests.map fun r => r.answer .zeroized,
            requests := [],
            admitted := if dropped then ch.admitted - 1 else ch.admitted }

end Sys2Proof.Machine
end

