-- ==== Sys2Proof/Machine/Cipher.lean ====
section
/-! DEFINITION. The Cipher Core: claims, their operations and results, the key buffer and the arbiter
(02 3.4 and 3.5). -/

namespace Sys2Proof.Machine

/-- Who presents a claim (Table 3-2). -/
inductive Claimant where
  | su | ci | cec | pwr
  deriving DecidableEq, Repr

/-- The claimant of a job (Table 3-2). -/
def Job.claimant : Job → Claimant
  | .derive .. => .su
  | .respond .. => .ci
  | .component .. | .commit _ => .cec
  | .checkEntry .. | .checkTransport _ => .pwr

/-- The number of operations a claim needs (Table 3-2). -/
def Job.operations : Job → Nat
  | .derive _ _ blocks => 3 * blocks.length
  | .respond .. => 1
  | .component .. => 3
  | .commit _ => 1
  | .checkEntry _ previous => if previous.isSome then 2 else 1
  | .checkTransport _ => 1

/-- The keys that a claim loads into the key buffer when it is granted (R32, R33). -/
def Job.keys : Job → List CipherKey
  | .derive master transport _ => [.long master, .long transport]
  | .respond key _ => [.long key]
  | .component key _ _ => [.long key]
  | .commit value => [.long value]
  | .checkEntry current previous => .long current :: previous.toList.map .long
  | .checkTransport value => [.long value]

/-- The diversification block D_i (Table 3-3). -/
def diversification (account : BitVec 64) (sequence : BitVec 16) (i : Nat) (issuer : BitVec 16)
    (generation : Byte) (entry : EntryIndex) : Block :=
  account ++ (sequence + BitVec.ofNat 16 i) ++ issuer ++ generation ++ BitVec.ofNat 8 entry.val ++
    (0 : BitVec 16)

/-- The k diversification blocks of a DERIVE with its bound copies (R37). -/
def diversificationBlocks (body : DeriveBody) (number : Byte) (entry : EntryIndex) : List Block :=
  (List.range body.count).map fun i =>
    diversification body.account body.sequence i body.issuer number entry

/-- The claim of a DERIVE that has passed its checks (R32). -/
def deriveJob (body : DeriveBody) (bound : BoundCopies) : Job :=
  .derive bound.master bound.transport (diversificationBlocks body bound.number bound.entry)

/-- The card key of a diversification block (R38). -/
def cardKey (master : Key) (d : Block) : Block :=
  encrypt256 master d

/-- The wrapped key W_i of a card key (R38). -/
def wrappedKey (transport : Key) (k : Block) : Block :=
  encrypt256 transport k

/-- The check value C_i of a card key: the first 3 bytes of the zero block under it (R38). -/
def cardKeyCheck (k : Block) : CheckValue :=
  firstThree (encrypt128 k 0)

/-- The check value of a 32-byte key value, as a claim computes it (R117, R119, R188). -/
def keyCheck (v : Key) : CheckValue :=
  firstThree (encrypt256 v 0)

/-- What an operation of a claim leaves for the claimant: a block, or a check value, which is all that
is kept of the block it is cut from (R36, R38). -/
inductive Result where
  | block (value : Block)
  | check (value : CheckValue)
  deriving DecidableEq, Repr

/-- What the three operations of one card key leave for the Service Unit, in the order they run: nothing
of K_i, which stands in the key buffer alone, then W_i, then C_i (R38). -/
def cardKeyOperations (master transport : Key) (d : Block) : List (Option Result) :=
  let k := cardKey master d
  [none, some (.block (wrappedKey transport k)), some (.check (cardKeyCheck k))]

/-- The component that an ENTER_COMPONENT claim decrypts (R117). -/
def decryptComponent (key : Key) (block1 block2 : Block) : Key :=
  joinBlocks (decrypt256 key block1) (decrypt256 key block2)

/-- What each operation of a claim leaves for its claimant, in the order they run (R38, R100, R117,
R119, R188). -/
def Job.operationResults : Job → List (Option Result)
  | .derive master transport blocks => blocks.flatMap (cardKeyOperations master transport)
  | .respond key challenge => [some (.block (encrypt256 key challenge))]
  | .component key block1 block2 =>
    [some (.block (decrypt256 key block1)), some (.block (decrypt256 key block2)),
     some (.check (keyCheck (decryptComponent key block1 block2)))]
  | .commit value => [some (.check (keyCheck value))]
  | .checkEntry current previous =>
    some (.check (keyCheck current)) :: previous.toList.map fun v => some (.check (keyCheck v))
  | .checkTransport value => [some (.check (keyCheck value))]

/-- The results a claim has reached so far (R33). -/
def Claim.results (c : Claim) : List Result :=
  (c.job.operationResults.take c.done).filterMap id

/-- The results that a claim hands to its claimant when it completes: of a DERIVE the W_i and C_i and
nothing else (R36, R38). -/
def Job.results (job : Job) : List Result :=
  job.operationResults.filterMap id

/-- The block at a place of a claim's results. -/
def resultBlock (results : List Result) (n : Nat) : Block :=
  match results[n]? with
  | some (.block value) => value
  | some (.check _) | none => 0

/-- The check value at a place of a claim's results. -/
def resultCheck (results : List Result) (n : Nat) : CheckValue :=
  match results[n]? with
  | some (.check value) => value
  | some (.block _) | none => 0

/-- The keys formed during the first `done` operations of a claim: a card key with the first of each
three operations of a DERIVE, the component with the second of an ENTER_COMPONENT (R33, R38). -/
def Claim.formedKeys (c : Claim) : List CipherKey :=
  match c.job with
  | .derive master _ blocks =>
    (blocks.take ((c.done + 2) / 3)).map fun d => .short (cardKey master d)
  | .component key block1 block2 =>
    if 2 ≤ c.done then [.long (decryptComponent key block1 block2)] else []
  | .respond .. | .commit _ | .checkEntry .. | .checkTransport _ => []

/-- The idle Cipher Core: empty key buffer, no claim (R33). -/
def CipherCore.idle : CipherCore :=
  { keyBuffer := [], current := none, waiting := [] }

/-- The Cipher Core with a claim granted: its keys are loaded, no operation is done (R32, R33). -/
def CipherCore.grant (job : Job) (waiting : List WaitingClaim) : CipherCore :=
  { keyBuffer := job.keys, current := some { job := job, done := 0 }, waiting := waiting }

/-- How a claim waits: the Service Unit's without its key values (R32). -/
def Job.waiting (job : Job) : WaitingClaim :=
  match job.claimant with
  | .su => .service
  | .ci | .cec | .pwr => .held job

/-- What a waiting claim is for, at its grant: the Service Unit's is formed from the in-service record,
which alone holds its key values while it waits (R32). -/
def WaitingClaim.job? (record : Option InService) : WaitingClaim → Option Job
  | .service => record.map fun r => deriveJob r.body r.bound
  | .held job => some job

/-- A claim is presented: granted at once by an idle core, else it waits (R35). -/
def CipherCore.present (job : Job) (cc : CipherCore) : CipherCore :=
  match cc.current with
  | none => .grant job cc.waiting
  | some _ => { cc with waiting := cc.waiting ++ [job.waiting] }

/-- The claim comes from the Custodian Interface or the Ceremony Controller (R35). -/
def Job.custodianSide (job : Job) : Bool :=
  job.claimant == .ci || job.claimant == .cec

/-- The waiting claim does. -/
def WaitingClaim.custodianSide : WaitingClaim → Bool
  | .service => false
  | .held job => job.custodianSide

/-- The waiting claim the arbiter grants next: a custodian-side one, else the first (R35). -/
def nextClaim (waiting : List WaitingClaim) : Option WaitingClaim :=
  match waiting.find? WaitingClaim.custodianSide with
  | some c => some c
  | none => waiting.head?

/-- The arbiter, when no claim holds the core, given the request in service (R35, R36). A claim of the
Service Unit waits only while a request is in service (R32), so one without is not granted. -/
def CipherCore.arbitrate (record : Option InService) (cc : CipherCore) : CipherCore :=
  match cc.current with
  | some _ => cc
  | none =>
    match nextClaim cc.waiting with
    | none => cc
    | some w =>
      match w.job? record with
      | none => cc
      | some job => .grant job (cc.waiting.erase w)

/-- The current claim leaves: the key buffer is overwritten with zero bytes (R36). -/
def CipherCore.release (cc : CipherCore) : CipherCore :=
  { cc with keyBuffer := [], current := none }

/-- One operation of the current claim short of its last, which is CC_CLAIM_COMPLETE (R33, R38). -/
def CipherCore.operate (cc : CipherCore) : CipherCore :=
  match cc.current with
  | none => cc
  | some c =>
    if c.done + 1 < c.job.operations then
      let c := { c with done := c.done + 1 }
      { cc with current := some c, keyBuffer := c.job.keys ++ c.formedKeys }
    else cc

/-- A claim is presented to the core of the state (R34, R35). -/
def State.presentClaim (job : Job) (s : State) : State :=
  s.withCc (s.cc.present job)

end Sys2Proof.Machine
end

