-- ==== Sys2Proof/Machine/Custodians.lean ====
section
/-! DEFINITION. Presence, the presence window and the custodian port (05 6.1 and 6.4). -/

namespace Sys2Proof.Machine

/-! ## The presence window (R102) -/

/-- The window stops with count 0. -/
def PresenceWindow.stop (w : PresenceWindow) : PresenceWindow :=
  { w with remaining := 0, running := false }

/-- The window starts at its length L. -/
def PresenceWindow.start (w : PresenceWindow) : PresenceWindow :=
  { w with remaining := w.length, running := true }

/-- A running window is set to L again; a stopped one stays as it is. -/
def PresenceWindow.restart (w : PresenceWindow) : PresenceWindow :=
  if w.running then { w with remaining := w.length } else w

/-! ## The presence list (R101) -/

/-- The list after custodians have left by LOGOFF or expiry: the window stops if it is empty, and the
Ceremony Controller discards its context on a drop from two or more to fewer than two (R101, R123). -/
def State.shrinkPresence (after : List CustodianNo) (s : State) : State :=
  let dropped := decide (2 ≤ s.ci.presence.length) && decide (after.length < 2)
  let s := s.withCi { s.ci with
    presence := after
    window := if after.isEmpty then s.ci.window.stop else s.ci.window }
  if dropped then s.withCec none else s

/-- A custodian joins the tail; the first of an empty list starts the window (R101, R102). -/
def State.joinPresence (c : CustodianNo) (s : State) : State :=
  s.withCi { s.ci with
    presence := s.ci.presence ++ [c]
    window := if s.ci.presence.isEmpty then s.ci.window.start else s.ci.window }

/-- Window expiry takes effect: the list is emptied with its notice, the window stops and
WINDOW_EXPIRED is raised; nothing is pending any more (R103). -/
def State.expireWindow (s : State) : State :=
  let s := (s.shrinkPresence []).raiseEvent .windowExpired
  s.withCi { s.ci with expiryPending := false }

/-- A command is executing at the port. -/
def State.executing (s : State) : Bool :=
  match s.ci.port with
  | .executing _ => true
  | .off | .starting | .ready _ => false

/-- A running window stands at 0: expiry takes effect, or is held pending behind an executing
command (R103). -/
def State.windowAtZero (s : State) : State :=
  if s.executing then s.withCi { s.ci with expiryPending := true } else s.expireWindow

/-- An advance of cabinet seconds reaches a running window: its count falls by 1, and at 0 the window
expires. A count already at 0, whose expiry is pending, stays there (R102, R103)
(assumption log 22). -/
def State.tickWindow (s : State) : State :=
  if s.ci.window.running && decide (0 < s.ci.window.remaining) then
    let s := s.withCi { s.ci with
      window := { s.ci.window with remaining := s.ci.window.remaining - 1 } }
    if s.ci.window.remaining = 0 then s.windowAtZero else s
  else s

/-! ## Completion at the port (R93) -/

/-- A command completes: its reply frame is placed, the port is READY with nothing decided, and then a
pending expiry takes effect (R93, R103). -/
def State.finish (status : ConsoleStatus) (body : List Byte) (s : State) : State :=
  let s := s.withCi { s.ci with
    port := .ready (some { status := status, body := body })
    decided := none }
  if s.ci.expiryPending then s.expireWindow else s

/-- A command completes with a status other than DONE, whose body is empty (R93). -/
def State.refuse (status : ConsoleStatus) (s : State) : State :=
  s.finish status []

/-! ## Taking a command (R92) -/

/-- The number of records that are ENROLLED (R95). -/
def State.enrolledCount (s : State) : Nat :=
  (s.ci.custodians.toList.filter fun c => c.state == .enrolled).length

/-- ENROL_CUSTODIAN while fewer than two records are ENROLLED (R92, R95). -/
def State.freshPart (c : Command) (s : State) : Bool :=
  match c with
  | .enrolCustodian .. => decide (s.enrolledCount < 2)
  | _ => false

/-- The presence check of R92: the status it refuses with, if it does. -/
def State.presenceRefusal (c : Command) (s : State) : Option ConsoleStatus :=
  if s.freshPart c then none
  else
    match c.presenceClass, s.ci.presence with
    | .none, _ => none
    | .one, [] => some .notPresent
    | .one, _ :: _ => none
    | .two, [] => some .notPresent
    | .two, [_] => some .needTwo
    | .two, _ :: _ :: _ => none

/-- An erase is in progress (R169). -/
def State.erasing (s : State) : Bool :=
  s.ec.position.isSome

/-- The two checks of R92 in order: the status a command is refused with at the take, if it is. -/
def State.takeRefusal (c : Command) (s : State) : Option ConsoleStatus :=
  if s.erasing && !c.servedDuringErase then some .erasing else s.presenceRefusal c

/-- Whether an accepted command restarts the presence window (R92, R95). -/
def State.restartsWindow (c : Command) (s : State) : Bool :=
  c.presenceClass != .none && !c.isRead && !s.freshPart c

/-- A command is accepted: the port is EXECUTING and, where R92 says so, the window restarts. -/
def State.accept (c : Command) (s : State) : State :=
  s.withCi { s.ci with
    port := .executing c
    window := if s.restartsWindow c then s.ci.window.restart else s.ci.window }

/-- The custodian record at a place of the table (R94). -/
def State.custodian (c : CustodianNo) (s : State) : Custodian :=
  s.ci.custodians[c]

/-- The state with one custodian record replaced (R94). -/
def State.setCustodian (c : CustodianNo) (r : Custodian) (s : State) : State :=
  s.withCi { s.ci with custodians := s.ci.custodians.set c r }

/-! ## Read transactions (R90, R93) -/

/-- The frame that a read transaction finds: none when the address is not acknowledged
(assumption log 19). -/
def State.portRead (s : State) : Option ReplyFrame :=
  match s.ci.port with
  | .off => none
  | .starting => some { status := .starting, body := [] }
  | .executing _ => some { status := .busy, body := [] }
  | .ready none => some { status := .done, body := [] }
  | .ready (some frame) => some frame

/-- The frame that a read transaction to an address finds: none where the address is not the port's,
or the port is OFF (R89, R90). -/
def State.portReadAt (address : BitVec 7) (s : State) : Option ReplyFrame :=
  if address = s.ci.address then s.portRead else none

/-- The bytes of a reply frame: status, length, body (R93). -/
def ReplyFrame.bytes (f : ReplyFrame) : List Byte :=
  f.status.code :: BitVec.ofNat 8 f.body.length :: f.body

/-- What a read of `n` bytes returns: the frame from its first byte, then 00h (R93). -/
def ReplyFrame.read (n : Nat) (f : ReplyFrame) : List Byte :=
  (List.range n).map fun i => f.bytes.getD i 0

end Sys2Proof.Machine
end

