-- ==== Sys2Proof/Machine/Monitor.lean ====
section
/-! DEFINITION. Mesh conversions, normalisation, evaluation and learning (07), up to the point where
a trip is handed to the Erase Controller. -/

namespace Sys2Proof.Machine

/-- The other mesh. -/
def Mesh.other : Mesh → Mesh
  | .a => .b
  | .b => .a

/-- The cause that a trip of a mesh carries (R148). -/
def Mesh.cause : Mesh → Cause
  | .a => .meshA
  | .b => .meshB

/-- The record of a mesh. -/
def TamperMonitor.mesh (m : Mesh) (tm : TamperMonitor) : MeshRecord :=
  match m with
  | .a => tm.meshA
  | .b => tm.meshB

/-- The monitor with one mesh record replaced (R135). -/
def TamperMonitor.setMesh (m : Mesh) (r : MeshRecord) (tm : TamperMonitor) : TamperMonitor :=
  match m with
  | .a => { tm with meshA := r }
  | .b => { tm with meshB := r }

/-! ## Conversions (R138 to R143) -/

/-- A conversion starts on a mesh under a run-up count. -/
def TamperMonitor.begin (m : Mesh) (n : Nat) (tm : TamperMonitor) : TamperMonitor :=
  { tm with conversion := some (Conversion.start m n), nextMesh := m.other }

/-- The conversion in progress is discarded: no reading, and the last-valid flag of its mesh is
cleared (R142). -/
def TamperMonitor.discard (tm : TamperMonitor) : TamperMonitor :=
  match tm.conversion with
  | none => tm
  | some cv =>
    { tm.setMesh cv.mesh { tm.mesh cv.mesh with lastValid := false } with conversion := none }

/-- The mesh on which a conversion that replaces the one in progress starts (R140, R141). -/
def TamperMonitor.sameMesh (tm : TamperMonitor) : Mesh :=
  match tm.conversion with
  | none => tm.nextMesh
  | some cv => cv.mesh

/-- The count that de-integration has reached, 0 before it begins (R138). -/
def Conversion.reached (cv : Conversion) : Nat :=
  match cv.phase with
  | .runUp => 0
  | .deIntegrate => cv.count

/-- The count C of a conversion whose integrator crosses zero at `crossing`: at most 2N, and 2N where
de-integration has counted that far (R138). De-integration ends at the first count at which the output
has crossed, so a crossing named below the count reached is taken at that count (DESIGN CHOICE,
assumption log 8). -/
def Conversion.reading (cv : Conversion) (crossing : Nat) : Nat :=
  min (max cv.reached crossing) (2 * cv.runUpCount)

/-- The normalised reading M, the floor of C × 4096 / N (R143). -/
def normalise (n c : Nat) : Nat :=
  c * 4096 / n

/-- What follows a completed conversion: on the NORMAL schedule the next one starts on the other mesh
at the configured N; on the HOLD schedule the converter idles (R140, R141). -/
def TamperMonitor.afterConversion (m : Mesh) (tm : TamperMonitor) : TamperMonitor :=
  match tm.schedule with
  | .normal => tm.begin m.other tm.runUpCount
  | .hold => { tm with conversion := none, nextMesh := m.other }

/-- A reading is recorded: last M and the last-valid flag of its mesh (R144). -/
def TamperMonitor.record (m : Mesh) (reading : Nat) (tm : TamperMonitor) : TamperMonitor :=
  tm.setMesh m { tm.mesh m with lastM := reading, lastValid := true }

/-! ## Evaluation (R145 to R147) -/

/-- An open or a short (R143, R145). -/
def outOfRange (reading : Nat) : Bool :=
  reading == Config.openReading || decide (reading < Config.shortBelow)

/-- The distance of a reading from a baseline (R146). -/
def distance (reading baseline : Nat) : Nat :=
  (reading - baseline) + (baseline - reading)

/-- The baseline limited to the band from L − W to L + W (R147). -/
def bandLimit (learned window baseline : Nat) : Nat :=
  max (learned - window) (min baseline (learned + window))

/-- The baseline moved toward a reading by a sixteenth of the difference, truncated toward zero
(R147). -/
def driftStep (reading baseline : Nat) : Nat :=
  if baseline ≤ reading then baseline + (reading - baseline) / 16
  else baseline - (baseline - reading) / 16

/-- The baseline after a reading within the window (R147). -/
def nextBaseline (drift : Bool) (window learned reading baseline : Nat) : Nat :=
  bandLimit learned window
    (if drift && decide (distance reading baseline ≤ window / 4) then driftStep reading baseline
     else baseline)

/-- The outcome of an evaluation (R145 to R147). -/
inductive Verdict where
  /-- An open or a short: a trip at once (R145). -/
  | cut
  /-- A strike, and whether it trips (R146). -/
  | strike (trips : Bool)
  /-- Within the window (R147). -/
  | within
  deriving DecidableEq, Repr

/-- The evaluation of a reading against a mesh record, the first step that decides (R144). -/
def judge (window strikeLimit reading : Nat) (r : MeshRecord) : Verdict :=
  if outOfRange reading then .cut
  else if window < distance reading r.baseline then .strike (decide (strikeLimit ≤ r.strikes + 1))
  else .within

/-- The mesh record after an evaluation: an open or short changes neither count nor baseline, a
strike raises the count, a reading within the window clears it and may move the baseline. -/
def MeshRecord.judged (v : Verdict) (drift : Bool) (window reading : Nat) (r : MeshRecord) :
    MeshRecord :=
  match v with
  | .cut => r
  | .strike _ => { r with strikes := r.strikes + 1 }
  | .within =>
    { r with strikes := 0, baseline := nextBaseline drift window r.learned reading r.baseline }

/-! ## Learning (R149 to R152) -/

/-- The empty learning record of a mesh. -/
def Tally.empty : Tally :=
  { count := 0, sum := 0, least := none, greatest := none }

/-- A reading is added to a mesh's learning record (R150). -/
def Tally.add (reading : Nat) (t : Tally) : Tally :=
  { count := t.count + 1, sum := t.sum + reading,
    least := some (min reading (t.least.getD reading)),
    greatest := some (max reading (t.greatest.getD reading)) }

/-- The spread of the readings of a mesh. -/
def Tally.spread (t : Tally) : Nat :=
  t.greatest.getD 0 - t.least.getD 0

/-- The learning record of a mesh. -/
def Learning.tally (m : Mesh) (l : Learning) : Tally :=
  match m with
  | .a => l.a
  | .b => l.b

/-- The learning record with one mesh's part replaced. -/
def Learning.setTally (m : Mesh) (t : Tally) (l : Learning) : Learning :=
  match m with
  | .a => { l with a := t }
  | .b => { l with b := t }

/-- Learning is complete: both meshes have eight readings (R151). -/
def Learning.complete (l : Learning) : Bool :=
  decide (Config.learningReadings ≤ l.a.count) && decide (Config.learningReadings ≤ l.b.count)

/-- L, B and the strike count of a mesh at the success of learning (R151). -/
def MeshRecord.learn (t : Tally) (r : MeshRecord) : MeshRecord :=
  { r with learned := t.sum / Config.learningReadings, baseline := t.sum / Config.learningReadings,
           strikes := 0 }

/-- The monitor at the success of learning (R151). -/
def TamperMonitor.succeed (l : Learning) (tm : TamperMonitor) : TamperMonitor :=
  { tm with state := .armed, learning := none, meshA := tm.meshA.learn l.a,
            meshB := tm.meshB.learn l.b }

/-- Learning fails: UNARMED, the record discarded, ARM_RESULT raised (R150). -/
def State.failLearning (s : State) : State :=
  (s.withTm { s.tm with state := .unarmed, learning := none }).raiseEvent .armResult

/-- A reading reaches the learning record (R149 to R151). The reading of the conversion that was in
progress when ARM was applied is not taken. -/
def State.learnReading (m : Mesh) (reading : Nat) (s : State) : State :=
  match s.tm.learning with
  | none => s
  | some l =>
    if l.begunBefore then s.withTm { s.tm with learning := some { l with begunBefore := false } }
    else
      let t := (l.tally m).add reading
      if outOfRange reading || decide (s.tm.window < t.spread) then s.failLearning
      else
        let l := l.setTally m t
        if l.complete then (s.withTm (s.tm.succeed l)).raiseEvent .armResult
        else s.withTm { s.tm with learning := some l }

/-- ARM is applied to an UNARMED monitor: LEARNING with a fresh record, failing at once if a lid is
open (R149, R159). -/
def State.beginLearning (s : State) : State :=
  let s := s.withTm { s.tm with
    state := .learning
    learning := some { begunBefore := s.tm.conversion.isSome, a := Tally.empty, b := Tally.empty } }
  if s.ess.lidA.isOpen || s.ess.lidB.isOpen then s.failLearning else s

/-! ## Settings (R153) -/

/-- A mesh record when SET_MESH is taken in ARMED: the baseline is limited to the new band and the
strikes are cleared. -/
def MeshRecord.reband (window : Nat) (r : MeshRecord) : MeshRecord :=
  { r with baseline := bandLimit r.learned window r.baseline, strikes := 0 }

/-- SET_MESH, its values already checked (R153). -/
def TamperMonitor.configure (runUp window strikeLimit : Nat) (drift : Bool) (tm : TamperMonitor) :
    TamperMonitor :=
  let tm := { tm with runUpCount := runUp, window := window, strikeLimit := strikeLimit,
                      drift := drift }
  match tm.state with
  | .armed => { tm with meshA := tm.meshA.reband window, meshB := tm.meshB.reband window }
  | .unarmed | .learning | .tripped => tm

/-! ## Hold entry and restart (R141, R156) -/

/-- LEARNING becomes UNARMED; every other state is kept (R152, R156). -/
def MonitorState.endLearning : MonitorState → MonitorState
  | .learning => .unarmed
  | .unarmed => .unarmed
  | .armed => .armed
  | .tripped => .tripped

/-- A mesh record with its strike count cleared. -/
def MeshRecord.clearStrikes (r : MeshRecord) : MeshRecord :=
  { r with strikes := 0 }

/-- A mesh record at the first step of a restart (Table 8-6). -/
def MeshRecord.restart (r : MeshRecord) : MeshRecord :=
  { r with strikes := 0, lastM := 0, lastValid := false }

/-- The monitor at hold entry: the conversion is discarded and the first hold conversion starts on
the same mesh, strikes are cleared, learning is lost (R141, R142, R156; assumption log 13). -/
def TamperMonitor.holdEntry (tm : TamperMonitor) : TamperMonitor :=
  let m := tm.sameMesh
  let tm := tm.discard
  { tm with state := tm.state.endLearning, learning := none, schedule := .hold,
            meshA := tm.meshA.clearStrikes, meshB := tm.meshB.clearStrikes }.begin
    m Config.holdRunUp

/-- The monitor at the first step of a restart (R140, R156). -/
def TamperMonitor.restart (tm : TamperMonitor) : TamperMonitor :=
  { tm with state := tm.state.endLearning, learning := none, schedule := .normal,
            meshA := tm.meshA.restart, meshB := tm.meshB.restart }.begin .a tm.runUpCount

/-- The monitor at an erase start (R137). -/
def TamperMonitor.trip (tm : TamperMonitor) : TamperMonitor :=
  { tm with state := .tripped, learning := none }

end Sys2Proof.Machine
end

