-- ==== Sys2Proof/Machine/Ops.lean ====
section
/-! DEFINITION. The operations that reach the whole part: the erase start and its triggers (09), hold
entry, the steps of a restart and the self-check (10). -/

namespace Sys2Proof.Machine

/-! ## Erase start (R171), part by part -/

/-- Part 1: ERASING at position 0. -/
def State.eraseBegin (s : State) : State :=
  s.withEc { s.ec with position := some 0 }

/-- The request in service if it belongs to a channel. -/
def State.endedFor (c : ChannelNo) (s : State) : Option InService :=
  match s.su.inService with
  | none => none
  | some r => if r.channel = c then some r else none

/-- The reply word in progress at an erase start: if it is a body word of a reply in transmission,
every bit not yet driven is driven as 0, from the bit period of the erase start (R81)
(assumption log 24). -/
def zeroTail (position : Position) (tx : TxWord) : TxWord :=
  match tx.source, position with
  | .body, .inFrame _ bit => { tx with data := (tx.data >>> (bit + 1)) <<< (bit + 1) }
  | .body, .gap => tx
  | .header, _ | .refusal _, _ | .fill, _ => tx

/-- The highway at an erase start: only the reply word in progress is touched (R81, R84). -/
def LineHighway.eraseStart (l : LineHighway) : LineHighway :=
  match l.highway with
  | .running position => { l with tx := l.tx.map (zeroTail position) }
  | .off | .enabling _ => l

/-- Parts 2 and 3: the Cipher Core and the Service Unit end their work, every channel closes, loses
its transport key and answers its requests ZEROIZED, and the reply word in progress is zeroed
(R46, R66, R81). -/
def State.eraseService (s : State) : State :=
  { s with
    cc := CipherCore.idle
    su := { s.su with inService := none }
    channels := Vector.ofFn fun c : ChannelNo => (s.channel c).eraseStart (s.endedFor c)
    lhi := s.lhi.eraseStart }

/-- The Tamper Record of a new erase (R179). -/
def TamperRecord.afresh (cause : Cause) (now : Seconds) (meshA meshB : Nat) (r : TamperRecord) :
    TamperRecord :=
  { causes := cause.set, firstTrigger := now, meshA := meshA, meshB := meshB,
    count := min (r.count + 1) Config.count16Max, completed := false, acknowledged := false }

/-- Part 4: the monitor hands over its last readings and becomes TRIPPED, learning ends with
ARM_RESULT, and the Tamper Record is written afresh (R137, R179). -/
def State.eraseRecord (cause : Cause) (s : State) : State :=
  let learning := s.tm.state == .learning
  let s := s.withEc { s.ec with
    record := s.ec.record.afresh cause s.pwr.seconds s.tm.meshA.lastM s.tm.meshB.lastM }
  (s.withTm s.tm.trip).raiseIf learning .armResult

/-- How the command in progress ends at an erase start: ZEROIZE completes DONE, any other ERASING
(R93, R172). -/
def Port.eraseStart : Port → Port
  | .executing .zeroize => .ready (some { status := .done, body := [] })
  | .executing _ => .ready (some { status := .erasing, body := [] })
  | .off => .off
  | .starting => .starting
  | .ready reply => .ready reply

/-- Parts 5 and 6: the ceremony context is discarded, presence is emptied without notice, the window
stops without WINDOW_EXPIRED, a pending expiry and the challenge go, and the command in progress ends
(R110, R123). -/
def State.eraseConsole (s : State) : State :=
  (s.withCec none).withCi { s.ci with
    port := s.ci.port.eraseStart
    decided := none
    presence := []
    window := s.ci.window.stop
    expiryPending := false
    challenge := none }

/-- An erase start in step 3 of a restart ends the self-check (R187, R188) (assumption log 26). -/
def Supply.eraseStart : Supply → Supply
  | .restarting (.checking _) cold => .restarting .checked cold
  | .restarting .initialised cold => .restarting .initialised cold
  | .restarting .checked cold => .restarting .checked cold
  | .normal => .normal
  | .hold => .hold

/-- The self-check ends (R188). -/
def State.eraseCheck (s : State) : State :=
  s.withPwr { s.pwr with supply := s.pwr.supply.eraseStart }

/-- An erase start: the parts of Table 10-2 in order, one indivisible action (R171). Part 7, the pass
through the Key Table, is the ERASE_ENTRY steps that follow. -/
def State.eraseStart (cause : Cause) (s : State) : State :=
  (s.eraseBegin.eraseService.eraseRecord cause).eraseConsole.eraseCheck

/-- A trigger reaches the Erase Controller: it starts an erase when IDLE, and adds its cause when
ERASING (R170, R177). -/
def State.trigger (cause : Cause) (s : State) : State :=
  match s.ec.position with
  | none => s.eraseStart cause
  | some _ =>
    s.withEc { s.ec with record := { s.ec.record with causes := s.ec.record.causes ||| cause.set } }

/-- A lid report reaches the monitor (R136, R159). -/
def State.lidReport (s : State) : State :=
  match s.tm.state with
  | .armed => s.trigger .lid
  | .learning => s.failLearning
  | .unarmed | .tripped => s

/-! ## Hold entry (R185) -/

/-- The Custodian Interface at hold entry: the port is OFF and the working state is lost, while the
table, the window length and the enables stay (Table 6-4). -/
def CustodianInterface.loseWork (port : Port) (ci : CustodianInterface) : CustodianInterface :=
  { ci with
    port := port
    decided := none
    presence := []
    window := ci.window.stop
    expiryPending := false
    challenge := none
    random := { lastPassed := none, test := .noTest }
    flags := 0
    violations := ViolationLatch.clear }

/-- The highway at hold entry and at the first step of a restart: OFF, the working state lost, the
active map and the timeout kept (R83). -/
def LineHighway.loseWork (l : LineHighway) : LineHighway :=
  { l with highway := .off, pendingMap := none, tx := none, rx := none }

/-- The Service Unit with its working state lost (R47). -/
def ServiceUnit.lost : ServiceUnit :=
  { pointer := 7, inService := none }

/-- A lid with its disagreement count cleared (R158). -/
def Lid.clearCount (l : Lid) : Lid :=
  { l with disagree := 0 }

/-- Supply sensing at hold entry: the return timer takes over from the low timer (Table 9-3). -/
def SupplySensing.holdEntry (vdd : Nat) (e : SupplySensing) : SupplySensing :=
  { e with
    lidA := e.lidA.clearCount
    lidB := e.lidB.clearCount
    lowTimer := .stopped
    returnTimer := if returnMv e.criterion < vdd then .running 0 else .stopped }

/-- The working state that hold entry and the first step of a restart lose alike. -/
def State.loseWork (port : Port) (s : State) : State :=
  { s with
    su := ServiceUnit.lost
    cc := CipherCore.idle
    channels := s.channels.map Channel.loseWork
    lhi := s.lhi.loseWork
    ci := s.ci.loseWork port
    cec := none }

/-- A battery result judged in hold: a battery trip if it is below the erase level while key material
is present (R166). -/
def State.judgeInHold (result : Option BatteryResult) (s : State) : State :=
  match result with
  | some r => if r.belowErase && s.keyMaterial then s.trigger .battery else s
  | none => s

/-- Hold entry: HOLD, the working state of every block lost, and the last battery result judged again
(R185) (assumption log 13). -/
def State.holdEntry (s : State) : State :=
  let s := s.loseWork .off
  let s := { s with
    tm := s.tm.holdEntry
    ess := s.ess.holdEntry s.pins.vdd
    pwr := { s.pwr with supply := .hold, held := .none, resetHeld := false } }
  s.judgeInHold s.ess.result

/-! ## Restart (R186, R187) -/

/-- Supply sensing at the first step of a restart (Table 9-3). -/
def SupplySensing.restart (vdd : Nat) (emzHigh : Bool) (e : SupplySensing) : SupplySensing :=
  { e with
    lidA := { isOpen := false, disagree := 0 }
    lidB := { isOpen := false, disagree := 0 }
    emzHigh := emzHigh
    lowTimer := if vdd < criterionMv e.criterion then .running 0 else .stopped
    returnTimer := .stopped
    holdSent := false
    sample := none
    result := none }

/-- The port address of the levels at the address pins (R89) (assumption log 28). -/
def portAddress (adr : BitVec 2) : BitVec 7 :=
  0x58 + adr.setWidth 7

/-- Step 1 of a restart: RESTARTING, every block's working state initialised (R187)
(assumption log 10 and 11). -/
def State.initialise (s : State) : State :=
  let cold := s.pwr.coldPending
  let s := s.loseWork .starting
  { s with
    ci := { s.ci with address := portAddress s.pins.adr }
    tm := s.tm.restart
    ess := s.ess.restart s.pins.vdd s.pins.emzHigh
    pwr := { s.pwr with supply := .restarting .initialised cold, held := .none,
                        resetHeld := false, coldPending := false } }

/-- Steps 4 and 5 of a restart: RESTARTED unless it follows a cold start; the port READY with no
frame, the highway ENABLING, the supply state NORMAL (R187, R189). -/
def State.finishRestart (cold : Bool) (s : State) : State :=
  let s := s.raiseIf (!cold) .restarted
  { s with
    ci := { s.ci with port := .ready none }
    lhi := { s.lhi with highway := .enabling 0 }
    pwr := { s.pwr with supply := .normal } }

/-- The self-check claim of the item at a position, if it is not passed over (R188). -/
def State.checkJob (p : CheckPosition) (s : State) : Option Job :=
  match p with
  | .entry i =>
    match s.entry i with
    | .held _ _ current previous => some (.checkEntry current.value (previous.map (·.value)))
    | .empty | .faulted .. => none
  | .channel c => (s.channel c).transport.map fun g => .checkTransport g.value

/-- The items of a self-check in the order of their visits: entries 0 to 95, then channels 0 to 7
(R188). -/
def checkItem (n : Nat) : Option CheckPosition :=
  if h : n < 96 then some (.entry ⟨n, h⟩)
  else if h : n - 96 < 8 then some (.channel ⟨n - 96, h⟩)
  else none

/-- The place of an item in that order. -/
def CheckPosition.place : CheckPosition → Nat
  | .entry i => i.val
  | .channel c => 96 + c.val

/-- The first item at or after a place that has a claim to make. -/
def State.nextCheck (start : Nat) (s : State) : Option (CheckPosition × Job) :=
  (List.range' start (104 - start)).findSome? fun n =>
    (checkItem n).bind fun p => (s.checkJob p).map fun job => (p, job)

/-- The self-check goes on from a place: the next claim is presented, or step 3 ends and steps 4 and 5
follow (R187, R188). -/
def State.selfCheckFrom (start : Nat) (cold : Bool) (s : State) : State :=
  match s.nextCheck start with
  | some (p, job) =>
    (s.withPwr { s.pwr with supply := .restarting (.checking p) cold }).presentClaim job
  | none => s.finishRestart cold

/-- Step 2 and the steps after it: the restart count rises, unless the restart follows a cold start,
and the self-check begins at entry 0 (R187, R189). The count rises here and nowhere else, so a restart
abandoned while it rests after step 1 does not raise it, where R186 says that each beginning does
(DESIGN CHOICE, assumption log 34). -/
def State.continueRestart (cold : Bool) (s : State) : State :=
  let count := if cold then s.pwr.restartCount
    else min (s.pwr.restartCount + 1) Config.count16Max
  (s.withPwr { s.pwr with restartCount := count }).selfCheckFrom 0 cold

/-- A restart under way goes on from the step it had reached: after step 1 once RESET is high, after
step 3 at once (R187) (assumption log 10 and 26). -/
def State.resumeRestart (s : State) : State :=
  match s.pwr.supply with
  | .restarting .initialised cold => if s.pins.resetLow then s else s.continueRestart cold
  | .restarting .checked cold => s.finishRestart cold
  | .restarting (.checking _) _ | .normal | .hold => s

/-- A restart begins (R186): step 1, and on unless RESET is low. What stood of an earlier restart is
abandoned, uncounted where that one had not reached step 2 (DESIGN CHOICE, assumption log 34). -/
def State.beginRestart (s : State) : State :=
  s.initialise.resumeRestart

/-! ## Erase progress and completion (R173, R175, R183) -/

/-- The completion acts on what was held during the erase; with nothing held, a restart under way goes
on (R183, R187; assumption log 9). -/
def State.actOnHeld (s : State) : State :=
  match s.pwr.held with
  | .hold => s.holdEntry
  | .restart => s.beginRestart
  | .none => if s.pwr.resetHeld then s.beginRestart else s.resumeRestart

/-- The completion step of an erase (R175, R183). -/
def State.completeErase (s : State) : State :=
  let s := s.withEc { position := none, record := { s.ec.record with completed := true } }
  (s.raiseEvent .eraseDone).actOnHeld

/-- The next index after an erase position, if there is one. -/
def nextIndex (i : EntryIndex) : Option EntryIndex :=
  entryIndex? (i.val + 1)

/-- The entry at a position is emptied and the position moves on (R173, R175). -/
def State.eraseAt (i : EntryIndex) (s : State) : State :=
  let s := s.setEntry i .empty
  match nextIndex i with
  | some j => s.withEc { s.ec with position := some j }
  | none => s.completeErase

end Sys2Proof.Machine
end

