-- ==== Sys2Proof/Machine/Bodies.lean ====
section
/-! DEFINITION. The bodies of DONE replies, byte by byte in the layouts of Tables 6-5 and 6-9
(R111). An absent field is sent as zero. -/

namespace Sys2Proof.Machine

/-- The remaining life of the outstanding challenge in cabinet seconds; 0 for none (R99, R109). -/
def State.challengeLife (s : State) : Nat :=
  match s.ci.challenge with
  | none => 0
  | some c => (c.drawnAt + BitVec.ofNat 32 Config.challengeLife - s.pwr.seconds).toNat

/-- Byte 13 of STATUS: 0, or the ceremony's kind and state (Table 6-5). -/
def State.ceremonyByte (s : State) : Byte :=
  match s.cec with
  | none => 0
  | some c => BitVec.ofNat 8 (16 * c.target.code + c.state.code)

/-- Bytes 14 to 21 of STATUS, one custodian: state and failure count (Table 6-5). -/
def Custodian.statusByte (c : Custodian) : Byte :=
  BitVec.ofNat 8 (16 * c.state.code + c.failures)

/-- Bytes 33 to 56 of STATUS, one custodian: its check value, zero when VACANT (Table 6-5). -/
def Custodian.checkBytes (c : Custodian) : List Byte :=
  match c.state with
  | .vacant => [0, 0, 0]
  | .enrolled | .locked => vecBytes 3 c.check

/-- Bytes 5 to 7 of STATUS: the presence list, 0 in unused places (Table 6-5). -/
def State.presenceBytes (s : State) : List Byte :=
  (List.range 3).map fun i => (s.ci.presence.map custodianByte).getD i 0

/-- The STATUS body, 56 bytes (Table 6-5, R109). -/
def State.statusBody (s : State) : List Byte :=
  [BitVec.ofNat 8 s.tm.state.code, boolByte s.erasing,
   boolByte s.ess.lidA.isOpen ||| boolByte s.ess.lidB.isOpen <<< 1,
   BitVec.ofNat 8 s.ci.presence.length] ++
  s.presenceBytes ++ natBytes 2 s.ci.window.remaining ++ natBytes 2 s.ci.window.length ++
  [BitVec.ofNat 8 s.challengeLife, s.ceremonyByte] ++
  s.ci.custodians.toList.map Custodian.statusByte ++
  vecBytes 2 s.ci.flags ++ vecBytes 2 s.ci.enables ++ natBytes 2 s.pwr.restartCount ++
  vecBytes 4 s.pwr.seconds ++ [BitVec.ofNat 8 s.ci.random.test.code] ++
  s.ci.custodians.toList.flatMap Custodian.checkBytes

/-- The READ_EVENTS body, 6 bytes (05 6.8). -/
def State.eventsBody (s : State) : List Byte :=
  vecBytes 2 s.ci.flags ++
  (match s.ci.violations.pair with
   | none => [0, 0, 0]
   | some (c, e) => [1, BitVec.ofNat 8 c.val, BitVec.ofNat 8 e.val]) ++
  [BitVec.ofNat 8 s.ci.violations.count]

/-- The READ_TAMPER_RECORD body, 12 bytes (Table 6-9). -/
def TamperRecord.bytes (r : TamperRecord) : List Byte :=
  vecBytes 1 r.causes ++ vecBytes 4 r.firstTrigger ++ natBytes 2 r.meshA ++ natBytes 2 r.meshB ++
  natBytes 2 r.count ++ [boolByte r.completed ||| boolByte r.acknowledged <<< 1]

/-- The READ_ENTRY fields of a generation: number and check value, zero when absent. -/
def generationBytes (g : Option (Byte × CheckValue)) : List Byte :=
  match g with
  | none => [0, 0, 0, 0]
  | some (number, check) => number :: vecBytes 3 check

/-- The state code of an entry (Table 6-9). -/
def Entry.code : Entry → Nat
  | .empty => 0
  | .held _ suspended _ _ => if suspended then 2 else 1
  | .faulted .. => 3

/-- Number and check value of the current generation, which a FAULTED entry keeps (R19). -/
def Entry.currentRecord : Entry → Option (Byte × CheckValue)
  | .empty => none
  | .held _ _ g _ => some (g.number, g.check)
  | .faulted _ number check => some (number, check)

/-- Number and check value of the previous generation. -/
def Entry.previousRecord : Entry → Option (Byte × CheckValue)
  | .held _ _ _ (some g) => some (g.number, g.check)
  | .held _ _ _ none | .empty | .faulted .. => none

/-- The READ_ENTRY body, 40 bytes (Table 6-9, R19). -/
def Entry.bytes (e : Entry) : List Byte :=
  let label := (e.data?.map (·.label)).getD []
  [BitVec.ofNat 8 e.code, BitVec.ofNat 8 label.length] ++
  ((List.range 16).map fun i => label.getD i 0) ++
  vecBytes 2 ((e.data?.map (·.issuer)).getD 0) ++ [e.rights] ++
  generationBytes e.currentRecord ++ generationBytes e.previousRecord ++
  natBytes 3 e.allowance ++ natBytes 4 e.used ++
  vecBytes 4 ((e.data?.map (·.committedAt)).getD 0)

/-- The two refusal bytes of READ_CHANNEL: occupied and superseded, and the status (Table 6-9). -/
def Channel.refusalBytes (ch : Channel) : List Byte :=
  match ch.refusal with
  | none => [0, 0]
  | some r => [1 ||| boolByte r.superseded <<< 1, BitVec.ofNat 8 r.status.code]

/-- The READ_CHANNEL body, 18 bytes (Table 6-9, R65). -/
def Channel.bytes (inService : Bool) (ch : Channel) : List Byte :=
  [BitVec.ofNat 8 ch.state.code] ++
  generationBytes (ch.transport.map fun g => (g.number, g.check)) ++
  vecBytes 2 (ch.binding.getD 0) ++ natBytes 1 ch.limit ++ natBytes 4 ch.served ++
  natBytes 1 ch.admitted ++ natBytes 1 ch.requests.length ++ natBytes 1 ch.replies.length ++
  [boolByte inService] ++ ch.refusalBytes

/-- The READ_MESH fields of one mesh (Table 6-9). -/
def MeshRecord.bytes (r : MeshRecord) : List Byte :=
  natBytes 2 r.lastM ++ [boolByte r.lastValid] ++ natBytes 2 r.baseline ++ natBytes 2 r.learned ++
  natBytes 1 r.strikes

/-- The READ_MESH body, 16 bytes (Table 6-9, R155). -/
def TamperMonitor.bytes (tm : TamperMonitor) : List Byte :=
  tm.meshA.bytes ++ tm.meshB.bytes

end Sys2Proof.Machine
end

