-- ==== Sys2Proof/Machine/Commands.lean ====
section
/-! DEFINITION. What each console command does when its owner serves it: the checks of the Custodian
Interface (05), of the Ceremony Controller (06 7.2 and 7.6) and of the owners, and the change. -/

namespace Sys2Proof.Machine

/-- What serving a command gives: the changed state, the status and the body of the reply. -/
structure Served where
  state : State
  status : ConsoleStatus
  body : List Byte
  deriving DecidableEq, Repr

/-- Served with DONE and an empty body. -/
def served (s : State) : Served :=
  { state := s, status := .done, body := [] }

/-- Served with DONE and a body. -/
def servedBody (body : List Byte) (s : State) : Served :=
  { state := s, status := .done, body := body }

/-- Refused by its owner: a status, and no change. -/
def unserved (status : ConsoleStatus) (s : State) : Served :=
  { state := s, status := status, body := [] }

/-! ## Commands on one entry or one channel (R124) -/

/-- A command on the entry that an index byte names: BAD_VALUE above 95, STATE where the entry's
state gives it no effect (R124 to R127). -/
def State.onEntry (index : Byte) (f : Entry → Option Entry) (s : State) : Served :=
  match entryIndex? index.toNat with
  | none => unserved .badValue s
  | some i =>
    match f (s.entry i) with
    | none => unserved .state s
    | some e => served (s.setEntry i e)

/-- A command on the channel that a number byte names: BAD_VALUE above 7, STATE where the channel's
state gives it no effect (R124, R128). -/
def State.onChannel (number : Byte) (f : Channel → Option Channel) (s : State) : Served :=
  match channelNo? number.toNat with
  | none => unserved .badValue s
  | some c =>
    match f (s.channel c) with
    | none => unserved .state s
    | some ch => served (s.setChannel c ch)

/-- GRANT_ALLOWANCE (R125, R13). -/
def State.serveGrant (index : Byte) (amount : BitVec 24) (s : State) : Served :=
  if amount = 0 then unserved .badValue s else s.onEntry index (Entry.grant amount.toNat)

/-- The characters a label may hold (R3). -/
def labelFits (label : List Byte) : Bool :=
  decide (label.length ≤ Config.labelMax) &&
    label.all fun c => decide (0x20 ≤ c.toNat) && decide (c.toNat ≤ 0x7E)

/-- SET_LABEL (R126, R3). -/
def State.serveLabel (index : Byte) (label : List Byte) (s : State) : Served :=
  if labelFits label then s.onEntry index (Entry.setLabel label) else unserved .badValue s

/-- SET_ALLOWANCE_THRESHOLD (R125, R17). -/
def State.serveThreshold (threshold : BitVec 16) (s : State) : Served :=
  served (s.withKt { s.kt with threshold := threshold.toNat })

/-- SET_CHANNEL (R128, R55). -/
def State.serveSetChannel (number : Byte) (binding : BitVec 16) (limit : Byte) (s : State) :
    Served :=
  if binding = 0xFFFF ∨ limit.toNat < 1 ∨ 4 < limit.toNat then unserved .badValue s
  else s.onChannel number fun ch => some (ch.configure binding limit.toNat)

/-- The discard mark is set on the request in service if it belongs to the channel (R45). -/
def ServiceUnit.markDiscard (c : ChannelNo) (su : ServiceUnit) : ServiceUnit :=
  match su.inService with
  | none => su
  | some r => if r.channel = c then { su with inService := some { r with discard := true } } else su

/-- FLUSH_CHANNEL (R128, R63, R45). -/
def State.serveFlush (number : Byte) (s : State) : Served :=
  match channelNo? number.toNat with
  | none => unserved .badValue s
  | some c => served ((s.mapChannel c Channel.flush).withSu (s.su.markDiscard c))

/-! ## Highway settings (R129) -/

/-- WRITE_SLOT_MAP: the checked map becomes the pending map (R129, R72). -/
def State.serveSlotMap (length : Byte) (slots : List Byte) (s : State) : Served :=
  match slotMap? length slots with
  | none => unserved .badValue s
  | some m => served (s.withLhi { s.lhi with pendingMap := some m })

/-- SET_ASSEMBLY_TIMEOUT (R129, R78). -/
def State.serveTimeout (frames : BitVec 16) (s : State) : Served :=
  if frames.toNat < 16 ∨ 1024 < frames.toNat then unserved .badValue s
  else served (s.withLhi { s.lhi with timeout := frames.toNat })

/-! ## The tamper monitor and the supply settings (R130 to R133) -/

/-- ARM (R130, R149). -/
def State.serveArm (s : State) : Served :=
  match s.tm.state with
  | .unarmed => served s.beginLearning
  | .learning | .armed | .tripped => unserved .state s

/-- DISARM: ARMED, every entry EMPTY and no transport key (R130). -/
def State.serveDisarm (s : State) : Served :=
  if s.tm.state = .armed ∧ s.tableEmpty = true ∧ s.noTransportKeys = true then
    served (s.withTm { s.tm with state := .unarmed })
  else unserved .state s

/-- SET_MESH (R131, R153). -/
def State.serveMesh (runUp : Byte) (window : BitVec 16) (strikes drift : Byte) (s : State) :
    Served :=
  if 3 < runUp.toNat ∨ window.toNat < 16 ∨ 1024 < window.toNat ∨ strikes.toNat < 1 ∨
      4 < strikes.toNat ∨ 1 < drift.toNat then unserved .badValue s
  else if s.tm.state = .learning then unserved .state s
  else
    served (s.withTm (s.tm.configure (512 * 2 ^ runUp.toNat) window.toNat strikes.toNat
      (decide (drift.toNat = 1))))

/-- ACK_TRIP (R132, R181). -/
def State.serveAck (s : State) : Served :=
  match s.tm.state with
  | .tripped =>
    let s := s.withEc { s.ec with record := { s.ec.record with acknowledged := true } }
    served (s.withTm { s.tm with state := .unarmed })
  | .unarmed | .learning | .armed => unserved .state s

/-- The low timer judged against a new criterion (R164). -/
def Timer.rejudge (below : Bool) : Timer → Timer
  | .stopped => if below then .running 0 else .stopped
  | .running e => if below then .running e else .stopped
  | .atLimit => if below then .atLimit else .stopped

/-- SET_SUPPLY (R133, R164). -/
def State.serveSupply (criterion warning : Byte) (s : State) : Served :=
  match code4? criterion, code4? warning with
  | some c, some w =>
    served (s.withEss { s.ess with
      criterion := c
      warning := w
      lowTimer := s.ess.lowTimer.rejudge (decide (s.pins.vdd < criterionMv c)) })
  | some _, none | none, _ => unserved .badValue s

/-! ## The custodian table and the window (R95 to R97, R102, R104, R108) -/

/-- ENROL_CUSTODIAN (R95). -/
def State.serveEnrol (n : Byte) (key : Key) (check : CheckValue) (s : State) : Served :=
  match custodianNo? n with
  | none => unserved .badValue s
  | some c =>
    if key = 0 then unserved .badValue s
    else
      match (s.custodian c).state with
      | .vacant =>
        served (s.setCustodian c { state := .enrolled, key := key, check := check, failures := 0 })
      | .enrolled | .locked => unserved .state s

/-- REMOVE_CUSTODIAN (R96). -/
def State.serveRemove (n : Byte) (s : State) : Served :=
  match custodianNo? n with
  | none => unserved .badValue s
  | some c =>
    match (s.custodian c).state with
    | .vacant => unserved .state s
    | .enrolled | .locked =>
      if c ∈ s.ci.presence then unserved .state s
      else served (s.setCustodian c Custodian.vacant)

/-- UNLOCK_CUSTODIAN (R97). -/
def State.serveUnlock (n : Byte) (s : State) : Served :=
  match custodianNo? n with
  | none => unserved .badValue s
  | some c =>
    match (s.custodian c).state with
    | .locked =>
      served (s.setCustodian c { s.custodian c with state := .enrolled, failures := 0 })
    | .vacant | .enrolled => unserved .state s

/-- SET_WINDOW (R102). -/
def State.serveWindow (length : BitVec 16) (s : State) : Served :=
  if length.toNat < 30 ∨ 900 < length.toNat then unserved .badValue s
  else served (s.withCi { s.ci with window := { s.ci.window with length := length.toNat } })

/-- LOGOFF (R104). -/
def State.serveLogoff (n : Byte) (s : State) : Served :=
  match custodianNo? n with
  | none => unserved .badValue s
  | some c =>
    if c ∈ s.ci.presence then served (s.shrinkPresence (s.ci.presence.erase c))
    else unserved .state s

/-- SET_EVENT_ENABLES (R108). -/
def State.serveEnables (enables : BitVec 16) (s : State) : Served :=
  if enables.toNat < 2 ^ 11 then
    served (s.withCi { s.ci with enables := enables.setWidth 11 })
  else unserved .badValue s

/-! ## CHALLENGE (R98) -/

/-- The greatest number of equal bytes in a row, given the byte before and the run so far. -/
def longestRun (previous : Byte) (run : Nat) : List Byte → Nat
  | [] => run
  | b :: rest => if b = previous then longestRun b (run + 1) rest
                 else max run (longestRun b 1 rest)

/-- The repetition health test: a draw fails if it equals the last one that passed or holds six or
more consecutive equal bytes (R98). -/
def drawPasses (lastPassed : Option Block) (draw : Block) : Bool :=
  lastPassed != some draw &&
    match vecBytes 16 draw with
    | [] => true
    | b :: rest => decide (longestRun b 1 rest < Config.repetitionLimit)

/-- CHALLENGE with the bytes drawn (R98). -/
def State.serveChallenge (draw : Block) (s : State) : Served :=
  if drawPasses s.ci.random.lastPassed draw then
    servedBody (vecBytes 16 draw) (s.withCi { s.ci with
      challenge := some { value := draw, drawnAt := s.pwr.seconds }
      random := { lastPassed := some draw, test := .passed } })
  else
    unserved .randomFault (s.withCi { s.ci with
      challenge := none
      random := { s.ci.random with test := .failed } })

/-! ## Reads (R19, R65, R107, R109, R155, R180) -/

/-- READ_EVENTS: the flags returned are cleared and the latch is emptied (R107). -/
def State.serveEvents (s : State) : Served :=
  servedBody s.eventsBody
    (s.withCi { s.ci with flags := 0, violations := ViolationLatch.clear })

/-- READ_ENTRY (R19). -/
def State.serveReadEntry (index : Byte) (s : State) : Served :=
  match entryIndex? index.toNat with
  | none => unserved .badValue s
  | some i => servedBody (s.entry i).bytes s

/-- READ_CHANNEL (R65). -/
def State.serveReadChannel (number : Byte) (s : State) : Served :=
  match channelNo? number.toNat with
  | none => unserved .badValue s
  | some c => servedBody ((s.channel c).bytes (s.channelInService c)) s

/-! ## MEASURE_NOW and the ceremony commands (R114, R115, R122, R154) -/

/-- MEASURE_NOW: the conversion in progress is discarded, one starts on the same mesh at the
configured N, and learning fails (R154, R142, R152). -/
def State.serveMeasure (s : State) : Served :=
  let learning := s.tm.state == .learning
  let s := s.withTm (s.tm.discard.begin s.tm.sameMesh s.tm.runUpCount)
  served (if learning then s.failLearning else s)

/-- CANCEL_CEREMONY (R122). -/
def State.serveCancel (s : State) : Served :=
  match s.cec with
  | some _ => served (s.withCec none)
  | none => unserved .state s

/-- An issuer tag that an entry may have (R2). -/
def issuerFits (issuer : IssuerTag) : Bool :=
  issuer != 0 && issuer != 0xFFFF

/-- The target that the parameters of OPEN_CEREMONY name, if they pass the checks of R114 that depend
on the kind. -/
def ceremonyTarget? (kind target : Byte) (issuer : IssuerTag) (rights : Byte)
    (label : List Byte) : Option CeremonyTarget :=
  match kind.toNat with
  | 1 =>
    if issuerFits issuer && labelFits label then
      (entryIndex? target.toNat).map fun i => .newKey i issuer label rights
    else none
  | 2 =>
    if issuerFits issuer && label.isEmpty then
      (entryIndex? target.toNat).map fun i => .rollover i issuer
    else none
  | 3 => if label.isEmpty then (channelNo? target.toNat).map .transport else none
  | _ => none

/-- Whether a target is suitable for its kind as it stands (R115 step 3). -/
def State.suitable (target : CeremonyTarget) (generation : Byte) (s : State) : Bool :=
  match target with
  | .newKey i _ _ _ => !(s.entry i).isHeld
  | .rollover i issuer =>
    match s.entry i with
    | .held d _ current _ => d.issuer == issuer && decide (current.number < generation)
    | .empty | .faulted .. => false
  | .transport c => (s.channel c).acceptsTransport generation

/-- The context that an OPEN_CEREMONY creates (R115). -/
def Ceremony.opened (target : CeremonyTarget) (generation : Byte) (required : Nat) : Ceremony :=
  { target := target, generation := generation, required := required, contributors := [],
    combined := 0, state := .collecting }

/-- OPEN_CEREMONY (R114, R115). -/
def State.serveOpen (kind target generation components : Byte) (issuer : IssuerTag)
    (rights labelLength : Byte) (label : List Byte) (s : State) : Served :=
  if labelLength.toNat ≠ label.length ∨ generation = 0 ∨
      ¬ (components.toNat = 2 ∨ components.toNat = 3) then unserved .badValue s
  else
    match ceremonyTarget? kind target issuer rights label with
    | none => unserved .badValue s
    | some t =>
      if s.cec.isSome then unserved .state s
      else if s.tm.state ≠ .armed then unserved .notArmed s
      else if s.suitable t generation then
        served (s.withCec (some (Ceremony.opened t generation components.toNat)))
      else unserved .state s

/-! ## All commands -/

/-- A command is served by its owner. A command that completes with its Cipher Core claim, or with the
status decided at its take, is not served here. -/
def State.serve (c : Command) (draw : Block) (s : State) : Option Served :=
  match c with
  | .status => some (servedBody s.statusBody s)
  | .challenge => some (s.serveChallenge draw)
  | .respond .. | .enterComponent .. | .commit _ | .openCeremony .. => none
  | .readEvents => some s.serveEvents
  | .readTamperRecord => some (servedBody s.ec.record.bytes s)
  | .logoff n => some (s.serveLogoff n)
  | .cancelCeremony => some s.serveCancel
  | .zeroize => some (served (s.trigger .custodian))
  | .measureNow => some s.serveMeasure
  | .readEntry i => some (s.serveReadEntry i)
  | .readChannel n => some (s.serveReadChannel n)
  | .readMesh => some (servedBody s.tm.bytes s)
  | .setEventEnables e => some (s.serveEnables e)
  | .grantAllowance i amount => some (s.serveGrant i amount)
  | .revokeAllowance i => some (s.onEntry i Entry.revoke)
  | .setRights i rights => some (s.onEntry i (Entry.setRights rights))
  | .setLabel i label => some (s.serveLabel i label)
  | .suspendEntry i => some (s.onEntry i Entry.suspend)
  | .resumeEntry i => some (s.onEntry i Entry.resume)
  | .retireEntry i => some (s.onEntry i Entry.retire)
  | .dropPrevious i => some (s.onEntry i Entry.dropPrevious)
  | .setAllowanceThreshold t => some (s.serveThreshold t)
  | .channelOpen n => some (s.onChannel n Channel.openUp)
  | .channelHalt n => some (s.onChannel n Channel.halt)
  | .channelResume n => some (s.onChannel n Channel.resume)
  | .channelClose n => some (s.onChannel n fun ch => some ch.close)
  | .setChannel n binding limit => some (s.serveSetChannel n binding limit)
  | .flushChannel n => some (s.serveFlush n)
  | .writeSlotMap length slots => some (s.serveSlotMap length slots)
  | .setAssemblyTimeout frames => some (s.serveTimeout frames)
  | .arm => some s.serveArm
  | .disarm => some s.serveDisarm
  | .setMesh runUp window strikes drift => some (s.serveMesh runUp window strikes drift)
  | .ackTrip => some s.serveAck
  | .setSupply criterion warning => some (s.serveSupply criterion warning)
  | .enrolCustodian n key check => some (s.serveEnrol n key check)
  | .removeCustodian n => some (s.serveRemove n)
  | .unlockCustodian n => some (s.serveUnlock n)
  | .setWindow length => some (s.serveWindow length)

/-! ## Checks made at the take, and the completion (R93, R100, R115, R116, R119) -/

/-- RESPOND's checks in order, then its claim (R100). -/
def State.respondJob (n : Byte) (s : State) : ConsoleStatus ⊕ Job :=
  match custodianNo? n with
  | none => .inl .badValue
  | some c =>
    match s.ci.challenge with
    | none => .inl .noChallenge
    | some challenge =>
      match (s.custodian c).state with
      | .vacant => .inl .badValue
      | .locked => .inl .locked
      | .enrolled =>
        if c ∈ s.ci.presence ∨ Config.presenceMax ≤ s.ci.presence.length then .inl .state
        else .inr (.respond (s.custodian c).key challenge.value)

/-- ENTER_COMPONENT's checks in order, then its claim (R116, R117). -/
def State.componentJob (n : Byte) (block1 block2 : Block) (s : State) : ConsoleStatus ⊕ Job :=
  match custodianNo? n with
  | none => .inl .badValue
  | some c =>
    match s.cec with
    | none => .inl .state
    | some context =>
      if context.state = .ready ∨ c ∉ s.ci.presence ∨ c ∈ context.contributors then .inl .state
      else .inr (.component (s.custodian c).key block1 block2)

/-- COMMIT's checks in order, then its claim (R119). -/
def State.commitJob (s : State) : ConsoleStatus ⊕ Job :=
  match s.cec with
  | none => .inl .state
  | some context =>
    match context.state with
    | .collecting => .inl .state
    | .ready => .inr (.commit context.combined)

/-- What a command's own checks decide: nothing yet, or the status it will complete with (R93). -/
def State.withDecided (x : Option ConsoleStatus) (s : State) : State :=
  s.withCi { s.ci with decided := x }

/-- A refusal waits for the command's completion step, since the command then makes no claim (R93);
otherwise the claim is presented and the command goes on. -/
def State.claimOrRefuse (x : ConsoleStatus ⊕ Job) (s : State) : State :=
  match x with
  | .inl status => s.withDecided (some status)
  | .inr job => (s.withDecided none).presentClaim job

/-- RESPOND at the take: a challenge that passes the checks is consumed in the same step (R100). -/
def State.startRespond (n : Byte) (s : State) : State :=
  match s.respondJob n with
  | .inl status => s.withDecided (some status)
  | .inr job => (s.withCi { s.ci with challenge := none, decided := none }).presentClaim job

/-- OPEN_CEREMONY at the take: its checks are made of the target as it stands when the command is
taken, and the context is created in the same step when all pass (R115). The reply waits for the
command's completion step (R93; assumption log 4). -/
def State.startOpen (kind target generation components : Byte) (issuer : IssuerTag)
    (rights labelLength : Byte) (label : List Byte) (s : State) : State :=
  let r := s.serveOpen kind target generation components issuer rights labelLength label
  r.state.withDecided (some r.status)

/-- The command in progress completes: it is served, or ends with the status that its own checks have
decided. One that has made a claim goes on (R93). -/
def State.completeCommand (draw : Block) (s : State) : State :=
  match s.ci.port with
  | .executing c =>
    match s.serve c draw, s.ci.decided with
    | some r, _ => r.state.finish r.status r.body
    | none, some status => s.finish status []
    | none, none => s
  | .off | .starting | .ready _ => s

/-- What an accepted command does in the step in which it is taken: ZEROIZE starts the erase that
completes it (R172), MEASURE_NOW acts and completes (R154), OPEN_CEREMONY makes its checks and creates
its context (R115), the three commands with a claim make their checks and present it (R100, R116, R117,
R119); every one but the first two waits for its completion step (R93). -/
def State.startCommand (c : Command) (s : State) : State :=
  match c with
  | .zeroize => s.trigger .custodian
  | .respond n _ => s.startRespond n
  | .enterComponent n block1 block2 _ => s.claimOrRefuse (s.componentJob n block1 block2)
  | .commit _ => s.claimOrRefuse s.commitJob
  | .openCeremony kind target generation components issuer rights labelLength label =>
    s.startOpen kind target generation components issuer rights labelLength label
  | _ => if c.actsAtTake then s.completeCommand 0 else s

/-- A well-formed command reaches a READY port: it is refused at once or accepted (R92). -/
def State.takeCommand (c : Command) (s : State) : State :=
  match s.takeRefusal c with
  | some status => s.refuse status
  | none => (s.accept c).startCommand c

/-- The bytes of a write transaction that the port acknowledged, at its end (R90, R91). -/
def State.portWrite (bytes : List Byte) (s : State) : State :=
  match s.ci.port with
  | .ready _ =>
    match readFrame bytes with
    | .emptyWrite => s
    | .bad => s.refuse .badFrame
    | .unknown => s.refuse .unknownCommand
    | .command c => s.takeCommand c
  | .off | .starting | .executing _ => s

/-- A write transaction: one to another address than the port's is not acknowledged, and nothing is
taken (R89, R91). -/
def State.portWriteAt (write : WriteTransaction) (s : State) : State :=
  if write.address = s.ci.address then s.portWrite write.bytes else s

/-- A command with a row of its own: taken by a READY port and, where it makes no claim, completed
with no step of another block between (R92, R93; assumption log 4). -/
def State.commandRow (c : Command) (draw : Block) (s : State) : State :=
  match s.ci.port with
  | .ready _ => (s.takeCommand c).completeCommand draw
  | .off | .starting | .executing _ => s

end Sys2Proof.Machine
end

