-- ==== Sys2Proof/Machine/Service.lean ====
section
/-! DEFINITION. The Service Unit and the completion of claims (02): SU_SELECTION and
CC_CLAIM_COMPLETE, with what each claimant does with its results (R40, R100, R117, R120, R188). -/

namespace Sys2Proof.Machine

/-! ## Selection (R26) -/

/-- A channel is eligible: OPEN with a request waiting (R26). -/
def Channel.eligible (ch : Channel) : Bool :=
  ch.state == .opened && !ch.requests.isEmpty

/-- The channels in the order of the search, from the one after the pointer round to it (R26). -/
def searchOrder (pointer : ChannelNo) : List ChannelNo :=
  (List.range 8).map fun i => ⟨(pointer.val + 1 + i) % 8, Nat.mod_lt _ (by decide)⟩

/-- The channel the search stops at. -/
def State.selected (s : State) : Option ChannelNo :=
  (searchOrder s.su.pointer).find? fun c => (s.channel c).eligible

/-! ## Service-time checks (R28, R29) -/

/-- Checks 1 to 3 of Table 3-1. `issuer` is the request's issuer field, which a PROBE does not have
(R29). -/
def serviceCheck (c : ChannelNo) (binding : Option IssuerTag) (issuer : Option IssuerTag)
    (e : Entry) : Option ReplyStatus :=
  if !hasRight e.rights c then some .notPermitted
  else
    match e.data?, binding with
    | some d, some b =>
      if b ≠ d.issuer ∨ issuer.getD d.issuer ≠ d.issuer then some .wrongIssuer
      else if e.isHeld then none else some .noEntry
    | some _, none | none, _ => some .wrongIssuer

/-- Checks 4 to 6 of Table 3-1: the status of the first that fails, or the generation selected. -/
def deriveCheck (body : DeriveBody) (e : Entry) : ReplyStatus ⊕ Generation :=
  match e with
  | .held d suspended _ _ =>
    if suspended then .inl .suspended
    else
      match e.select body.generation with
      | none => .inl .noGeneration
      | some g => if d.allowance < body.count then .inl .allowanceShort else .inr g
  | .empty | .faulted .. => .inl .noEntry

/-- The PROBE reply's body words (R41, R88). -/
def probeWords (e : Entry) : List Word :=
  match e with
  | .held d suspended current previous =>
    [BitVec.ofNat 32 (if suspended then 2 else 1), current.number.setWidth 32,
     ((previous.map Generation.number).getD 0).setWidth 32, d.issuer.setWidth 32,
     BitVec.ofNat 32 d.allowance, BitVec.ofNat 32 d.used, current.check.setWidth 32]
  | .empty | .faulted .. => []

/-- The LINK_STATUS reply's body words (R42, R88). -/
def State.linkWords (ch : Channel) (s : State) : List Word :=
  [BitVec.ofNat 8 ch.state.code ++ BitVec.ofNat 8 ch.limit ++ BitVec.ofNat 8 ch.admitted ++
     BitVec.ofNat 8 s.tm.state.code,
   BitVec.ofNat 16 s.pwr.restartCount ++ (0 : BitVec 15) ++ BitVec.ofBool s.erasing]

/-- A request that ends in the step of its service start hands its reply to its channel (R31, R41,
R42). -/
def State.reply (c : ChannelNo) (r : Reply) (s : State) : State :=
  s.mapChannel c (Channel.addReply r)

/-- A request fails a service-time check (R30, R31). -/
def State.failRequest (c : ChannelNo) (r : Request) (i : EntryIndex) (status : ReplyStatus)
    (s : State) : State :=
  let s := if status = .notPermitted then s.reportViolation c i else s
  s.reply c (r.answer status)

/-- A PROBE at its service start (R29, R41). -/
def State.startProbe (c : ChannelNo) (r : Request) (i : EntryIndex) (s : State) : State :=
  match serviceCheck c (s.channel c).binding none (s.entry i) with
  | some status => s.failRequest c r i status
  | none =>
    s.reply c { kind := kindProbe, tag := r.tag, status := .ok, body := probeWords (s.entry i) }

/-- The charge of a DERIVE, with ALLOWANCE_LOW if it crosses the threshold (R15, R18). -/
def State.chargeEntry (i : EntryIndex) (k : Nat) (s : State) : State :=
  let before := (s.entry i).allowance
  (s.setEntry i ((s.entry i).charge k)).raiseIf
    (crossesThreshold s.kt.threshold before (before - k)) .allowanceLow

/-- A DERIVE that has passed its checks: charged, bound, and its claim presented (R15, R32). -/
def State.bindDerive (c : ChannelNo) (tag : Byte) (body : DeriveBody) (bound : BoundCopies)
    (s : State) : State :=
  let s := s.chargeEntry body.entry body.count
  let r : InService :=
    { channel := c, tag := tag, body := body, bound := bound, discard := false }
  (s.withSu { s.su with inService := some r }).presentClaim (deriveJob body bound)

/-- A DERIVE at its service start (R28, R32). -/
def State.startDerive (c : ChannelNo) (r : Request) (body : DeriveBody) (s : State) :
    Host.Outcome State Fault Refusal :=
  let e := s.entry body.entry
  match serviceCheck c (s.channel c).binding (some body.issuer) e with
  | some status => .next (s.failRequest c r body.entry status)
  | none =>
    match deriveCheck body e with
    | .inl status => .next (s.failRequest c r body.entry status)
    | .inr g =>
      match (s.channel c).transport with
      | none => .fault .openChannelWithoutKey
      | some t =>
        .next (s.bindDerive c r.tag body
          { master := g.value, number := g.number, entry := body.entry, transport := t.value })

/-- Service of a request just taken begins, in the step in which it is taken (R27). -/
def State.startService (c : ChannelNo) (r : Request) (s : State) :
    Host.Outcome State Fault Refusal :=
  match r.body with
  | .linkStatus =>
    .next (s.reply c { kind := kindLinkStatus, tag := r.tag, status := .ok,
                       body := s.linkWords (s.channel c) })
  | .probe i => .next (s.startProbe c r i)
  | .derive body => s.startDerive c r body

/-- SU_SELECTION: with no request in service, the head request of the next eligible channel is taken
and its service begins (R26, R27). With none eligible nothing happens. -/
def execSuSelection (s : State) : Host.Outcome State Fault Refusal :=
  match s.su.inService, s.selected with
  | none, some c =>
    match (s.channel c).requests with
    | r :: rest =>
      ((s.setChannel c { s.channel c with requests := rest }).withSu
        { s.su with pointer := c }).startService c r
    | [] => .next s
  | none, none | some _, _ => .next s

/-! ## Results of claims -/

/-- The five words of each card key of a DERIVE reply (R39, R88): W_i, then C_i with the low byte of
s + i. The claim's results are W_0, C_0, W_1, C_1 and so on (R38). -/
def deriveWords (body : DeriveBody) (results : List Result) : List Word :=
  (List.range body.count).flatMap fun i =>
    blockWords (resultBlock results (2 * i)) ++
      [resultCheck results (2 * i + 1) ++ (body.sequence + BitVec.ofNat 16 i).extractLsb' 0 8]

/-- A channel receives the reply of a completed DERIVE and is credited k card keys (R40, R64). -/
def Channel.credit (r : Reply) (k : Nat) (ch : Channel) : Channel :=
  { ch.addReply r with served := min (ch.served + k) Config.countMax }

/-- A DERIVE completes: its reply is handed over and counted, or dropped under the discard mark
(R40). -/
def State.completeDerive (results : List Result) (s : State) : State :=
  match s.su.inService with
  | none => s
  | some r =>
    let s := s.withSu { s.su with inService := none }
    if r.discard then
      s.mapChannel r.channel fun ch => { ch with admitted := ch.admitted - 1 }
    else
      s.mapChannel r.channel (Channel.credit
        { kind := kindDerive, tag := r.tag, status := .ok, body := deriveWords r.body results }
        r.body.count)

/-- A RESPOND's encrypted challenge matches: the failure count is cleared and the custodian joins
(R100). -/
def State.respondMatches (c : CustodianNo) (s : State) : State :=
  ((s.setCustodian c { s.custodian c with failures := 0 }).joinPresence c).finish .done []

/-- It does not: the failure count rises, and the third locks the record (R100). -/
def State.respondFails (c : CustodianNo) (s : State) : State :=
  let r := s.custodian c
  let locks := decide (Config.failuresToLock ≤ r.failures + 1)
  ((s.setCustodian c { r with failures := r.failures + 1,
                              state := if locks then .locked else r.state }).raiseIf
    locks .custodianLocked).finish .checkMismatch []

/-- A RESPOND claim completes (R100). -/
def State.completeRespond (result : Block) (s : State) : State :=
  match s.ci.port with
  | .executing (.respond n response) =>
    match custodianNo? n with
    | none => s
    | some c => if result = response then s.respondMatches c else s.respondFails c
  | _ => s

/-- A component that matches is combined by exclusive-or, and the context may become READY (R117). -/
def Ceremony.combine (c : CustodianNo) (component : Key) (x : Ceremony) : Ceremony :=
  let contributors := x.contributors ++ [c]
  { x with combined := x.combined ^^^ component, contributors := contributors,
           state := if x.required ≤ contributors.length then .ready else x.state }

/-- An ENTER_COMPONENT claim completes with a decrypted component and its check value (R117). -/
def State.completeComponent (component : Key) (check : CheckValue) (s : State) : State :=
  match s.ci.port with
  | .executing (.enterComponent n _ _ claimed) =>
    if check ≠ claimed then s.refuse .checkMismatch
    else
      match custodianNo? n, s.cec with
      | some c, some context => (s.withCec (some (context.combine c component))).finish .done []
      | some _, none | none, _ => s.refuse .state
  | _ => s

/-- The generation number whose check value equals a combined one is the target's own: check 2 of
Table 7-3 (assumption log 29). -/
def State.repeatsCurrent (target : CeremonyTarget) (check : CheckValue) (s : State) : Bool :=
  match target with
  | .rollover i _ =>
    match (s.entry i).current? with
    | some g => g.check == check
    | none => false
  | .newKey .. | .transport _ => false

/-- The first commit check of Table 7-3 that fails, if one does (R120). -/
def State.commitFailure (x : Ceremony) (check expected : CheckValue) (s : State) :
    Option ConsoleStatus :=
  if x.combined = 0 then some .badValue
  else if s.repeatsCurrent x.target check then some .badValue
  else if check ≠ expected then some .checkMismatch
  else if s.tm.state ≠ .armed then some .notArmed
  else if s.suitable x.target x.generation then none
  else some .state

/-- The owner of the target installs the combined value (R121, R7, R8, R54). -/
def State.install (target : CeremonyTarget) (g : Generation) (s : State) : State :=
  match target with
  | .newKey i issuer label rights =>
    match (s.entry i).installNewKey issuer label rights g s.pwr.seconds with
    | some e => s.setEntry i e
    | none => s
  | .rollover i issuer =>
    match (s.entry i).installRollover issuer g s.pwr.seconds with
    | some e => s.setEntry i e
    | none => s
  | .transport c =>
    match (s.channel c).installTransport g with
    | some ch => s.setChannel c ch
    | none => s

/-- A COMMIT claim completes with the combined check value: the context ends, and the value is
installed if every check passes (R120, R121). -/
def State.completeCommit (check : CheckValue) (s : State) : State :=
  match s.ci.port, s.cec with
  | .executing (.commit expected), some x =>
    match s.commitFailure x check expected with
    | some status => (s.withCec none).refuse status
    | none =>
      ((s.install x.target { number := x.generation, value := x.combined, check := check }).withCec
        none).finish .done []
  | .executing (.commit _), none => s.refuse .state
  | _, _ => s

/-- The self-check's outcome for the item at a position (R12, R54, R188). -/
def State.applyCheck (p : CheckPosition) (results : List Result) (s : State) : State :=
  match p with
  | .entry i =>
    let r := (s.entry i).selfCheck (resultCheck results 0) (resultCheck results 1)
    (s.setEntry i r.1).raiseIf r.2 .entryFault
  | .channel c =>
    let r := (s.channel c).selfCheck (resultCheck results 0)
    (s.setChannel c r.1).raiseIf r.2 .entryFault

/-- A self-check claim completes: its outcome is applied and the self-check goes on (R188). -/
def State.completeCheck (results : List Result) (s : State) : State :=
  match s.pwr.supply with
  | .restarting (.checking p) cold => (s.applyCheck p results).selfCheckFrom (p.place + 1) cold
  | .restarting .initialised _ | .restarting .checked _ | .normal | .hold => s

/-- The results of a claim, and nothing else of it, go to its claimant (R36, R38). -/
def State.deliverResults (job : Job) (s : State) : State :=
  match job with
  | .derive .. => s.completeDerive job.results
  | .respond .. => s.completeRespond (resultBlock job.results 0)
  | .component .. =>
    s.completeComponent (joinBlocks (resultBlock job.results 0) (resultBlock job.results 1))
      (resultCheck job.results 2)
  | .commit _ => s.completeCommit (resultCheck job.results 0)
  | .checkEntry .. | .checkTransport _ => s.completeCheck job.results

/-- The completion of a claim: the key buffer is zeroed, the results go to the claimant, and a waiting
claim is granted (R35, R36). -/
def State.completeClaim (claim : Claim) (s : State) : State :=
  let s := (s.withCc s.cc.release).deliverResults claim.job
  s.withCc (s.cc.arbitrate s.su.inService)

/-- CC_CLAIM_COMPLETE: the current claim completes (R36). The row is the last operation's end, so it
completes the claim at whatever number of operations the claim stands (DESIGN CHOICE, assumption
log 16). With no claim nothing happens. -/
def execCcClaimComplete (s : State) : Host.Outcome State Fault Refusal :=
  match s.cc.current with
  | none => .next s
  | some claim => .next (s.completeClaim claim)

end Sys2Proof.Machine
end

