-- ==== Sys2Proof/Machine/Highway.lean ====
section
/-! DEFINITION. The line highway (04): FRAME_START, EARLY_FRAME_SYNC, SLOT_WORD_FIXED, SLOT_END,
ASSEMBLY_TIMEOUT and HIGHWAY_RUNNING. A step whose event cannot occur in the standing state changes
nothing (assumption log 3). -/

namespace Sys2Proof.Machine

/-- The highway runs on at the start of a slot or in the gap, where no bit has been sampled yet. -/
def State.moveTo (p : Position) (s : State) : State :=
  s.withLhi { s.lhi with highway := .running p, rx := none }

/-- Every channel record is changed by `f`, each on its own. -/
def State.mapChannels (f : Channel → Channel) (s : State) : State :=
  s.withChannels (s.channels.map f)

/-- FRAME_START: in the gap, a frame starts at slot 0, bit 31 (R70). -/
def execFrameStart (s : State) : Host.Outcome State Fault Refusal :=
  match s.lhi.highway with
  | .running .gap => .next (s.moveTo (.inFrame 0 31))
  | .running (.inFrame ..) | .enabling _ | .off => .next s

/-- The word in progress is cut (R79, R80). -/
def State.cutWord (s : State) : State :=
  match s.lhi.tx with
  | none => s
  | some tx =>
    (s.mapChannel tx.channel (Channel.wordCut tx.source)).withLhi { s.lhi with tx := none }

/-- EARLY_FRAME_SYNC: the frame is abandoned. The slot's words are dropped, every assembly is broken
with a BROKEN refusal, FRAME_SLIP is raised, and the position becomes GAP (R79)
(assumption log 17). -/
def execEarlyFrameSync (s : State) : Host.Outcome State Fault Refusal :=
  match s.lhi.highway with
  | .running (.inFrame ..) =>
    .next (((s.cutWord.mapChannels Channel.breakAssembly).raiseEvent .frameSlip).moveTo .gap)
  | .running .gap | .enabling _ | .off => .next s

/-- The word of a channel's slot is chosen and fixed (R80, R61). -/
def State.fixWord (c : ChannelNo) (s : State) : State :=
  let choice := (s.channel c).chooseWord c
  (s.setChannel c choice.2).withLhi { s.lhi with tx := some choice.1 }

/-- SLOT_WORD_FIXED: in the first bit period of a slot assigned to a channel, the word to send is
chosen and fixed (R80). -/
def execSlotWordFixed (s : State) : Host.Outcome State Fault Refusal :=
  match s.lhi.highway, s.lhi.tx with
  | .running (.inFrame slot 31), none =>
    match s.lhi.active.channel slot with
    | some c => .next (s.fixWord c)
    | none => .next s
  | _, _ => .next s

/-- One bit period ends: HRD is sampled at the bit's place, and HRM in the first bit period alone, its
sample being the mark (R69). -/
def sampleBit (pins : Pins) (bit : Nat) (rx : Option RxWord) : Option RxWord :=
  let level : Word := if pins.hrd.getLsbD bit then 1#32 <<< bit else 0
  if bit = 31 then some { mark := pins.hrm.getLsbD 31, data := level }
  else rx.map fun w => { w with data := w.data ||| level }

/-- The bit periods from one down to the slot's last end, most significant bit first (R69). -/
def sampleRest (pins : Pins) : Nat → Option RxWord → Option RxWord
  | 0, rx => sampleBit pins 0 rx
  | bit + 1, rx => sampleRest pins bit (sampleBit pins (bit + 1) rx)

/-- The word received in the slot goes to the assembly of the slot's channel; in an unassigned slot it
is ignored (R74). -/
def State.receiveWord (slot : Nat) (received : Option RxWord) (s : State) : State :=
  match s.lhi.active.channel slot, received with
  | some c, some w => s.mapChannel c (Channel.receive w.mark w.data)
  | some _, none | none, _ => s

/-- The word in progress counts as sent (R80). -/
def State.countWord (s : State) : State :=
  match s.lhi.tx with
  | none => s
  | some tx =>
    (s.mapChannel tx.channel (Channel.wordSent tx.source)).withLhi { s.lhi with tx := none }

/-- A frame completes: every assembly's frame count rises and is compared with the timeout, and a
pending map becomes the active one (R70, R72, R78). -/
def State.completeFrame (s : State) : State :=
  let s := s.mapChannels (Channel.countFrame s.lhi.timeout)
  s.withLhi { s.lhi with
    highway := .running .gap
    active := s.lhi.pendingMap.getD s.lhi.active
    pendingMap := none
    compared := s.lhi.timeout
    rx := none }

/-- The end of a slot (R70, R74, R80): the received word and the word sent, in the order that
`sentFirst` gives; then the next slot, or the frame completes after slot S − 1. -/
def State.endSlot (slot : Nat) (received : Option RxWord) (sentFirst : Bool) (s : State) : State :=
  let s := if sentFirst then s.countWord.receiveWord slot received
           else (s.receiveWord slot received).countWord
  if slot + 1 < s.lhi.active.length then s.moveTo (.inFrame (slot + 1) 31) else s.completeFrame

/-- SLOT_END: the slot's remaining bit periods end under the levels that the row brings, with the last
of them the slot (R69, R74, R80, R70) (assumption log 6 and 16). At bit 31 of an assigned slot whose
SLOT_WORD_FIXED has not run, the row ends the slot all the same: no reply word has been fixed, so none
counts as sent (DESIGN CHOICE, assumption log 16). -/
def execSlotEnd (hrd hrm : Word) (sentFirst : Bool) (s : State) :
    Host.Outcome State Fault Refusal :=
  match s.lhi.highway with
  | .running (.inFrame slot bit) =>
    let s := s.withPins { s.pins with hrd := hrd, hrm := hrm }
    .next (s.endSlot slot (sampleRest s.pins bit s.lhi.rx) sentFirst)
  | .running .gap | .enabling _ | .off => .next s

/-- ASSEMBLY_TIMEOUT: in the gap after a frame, an assembly whose frame count has reached the setting
that the frame's completion compared with is discarded with a BROKEN refusal (R78; assumption
log 5). -/
def execAssemblyTimeout (c : ChannelNo) (s : State) : Host.Outcome State Fault Refusal :=
  match s.lhi.highway with
  | .running .gap => .next (s.mapChannel c (Channel.timeOut s.lhi.compared))
  | .running (.inFrame ..) | .enabling _ | .off => .next s

/-- HIGHWAY_RUNNING: the ENABLING count reaches 64, and the highway is RUNNING in the gap (R82). -/
def execHighwayRunning (s : State) : Host.Outcome State Fault Refusal :=
  match s.lhi.highway with
  | .enabling _ => .next (s.moveTo .gap)
  | .running _ | .off => .next s

/-- The mark the part drives on HPM: none where both reply lines are high-impedance (R69). -/
def State.drivenMark (s : State) : Option Bool :=
  s.lhi.tx.map (·.mark)

/-- The bit the part drives on HPD in the standing bit period (R69). -/
def State.drivenBit (s : State) : Option Bool :=
  match s.lhi.highway, s.lhi.tx with
  | .running (.inFrame _ bit), some tx => some (tx.data.getLsbD bit)
  | _, _ => none

end Sys2Proof.Machine
end

