-- ==== Sys2Proof/Machine/Console.lean ====
section
/-! DEFINITION. The custodian port's steps (05): write transactions, the completion of a command, and
the commands with a row of their own. Each such row is addressed to the part, taken by a READY port and,
where it makes no claim, completed with no other block's step between; the same command sent through
COMMAND_TAKEN completes in its own COMMAND_COMPLETE, but for ZEROIZE and MEASURE_NOW, which complete in
the step of the take (R93, R154, R172; assumption log 4). -/

namespace Sys2Proof.Machine

/-- BAD_FRAME: a write transaction (R89, R91). -/
def execBadFrame (write : WriteTransaction) (s : State) : Host.Outcome State Fault Refusal :=
  .next (s.portWriteAt write)

/-- COMMAND_TAKEN: a write transaction that holds a well-formed command (R89, R91, R92). -/
def execCommandTaken (write : WriteTransaction) (s : State) : Host.Outcome State Fault Refusal :=
  .next (s.portWriteAt write)

/-- COMMAND_COMPLETE: the command in progress, if it has made no claim, is served by its owner or ends
with the status that its checks decided at the take; its reply frame is placed and a pending expiry
takes effect (R93, R103). -/
def execCommandComplete (draw : Block) (s : State) : Host.Outcome State Fault Refusal :=
  .next (s.completeCommand draw)

/-- STATUS (R109). -/
def execStatus (s : State) : Host.Outcome State Fault Refusal :=
  .next (s.commandRow .status 0)

/-- CHALLENGE, with the bytes the random source draws (R98). -/
def execChallenge (draw : Block) (s : State) : Host.Outcome State Fault Refusal :=
  .next (s.commandRow .challenge draw)

/-- RESPOND (R100). -/
def execRespond (custodian : Byte) (response : Block) (s : State) :
    Host.Outcome State Fault Refusal :=
  .next (s.commandRow (.respond custodian response) 0)

/-- READ_EVENTS (R107). -/
def execReadEvents (s : State) : Host.Outcome State Fault Refusal :=
  .next (s.commandRow .readEvents 0)

/-- READ_TAMPER_RECORD (R180). -/
def execReadTamperRecord (s : State) : Host.Outcome State Fault Refusal :=
  .next (s.commandRow .readTamperRecord 0)

/-- LOGOFF (R104). -/
def execLogoff (custodian : Byte) (s : State) : Host.Outcome State Fault Refusal :=
  .next (s.commandRow (.logoff custodian) 0)

/-- CANCEL_CEREMONY (R122). -/
def execCancelCeremony (s : State) : Host.Outcome State Fault Refusal :=
  .next (s.commandRow .cancelCeremony 0)

/-- ZEROIZE (R172). -/
def execZeroize (s : State) : Host.Outcome State Fault Refusal :=
  .next (s.commandRow .zeroize 0)

/-- MEASURE_NOW (R154). -/
def execMeasureNow (s : State) : Host.Outcome State Fault Refusal :=
  .next (s.commandRow .measureNow 0)

/-- READ_ENTRY (R19). -/
def execReadEntry (index : Byte) (s : State) : Host.Outcome State Fault Refusal :=
  .next (s.commandRow (.readEntry index) 0)

/-- READ_CHANNEL (R65). -/
def execReadChannel (channel : Byte) (s : State) : Host.Outcome State Fault Refusal :=
  .next (s.commandRow (.readChannel channel) 0)

/-- READ_MESH (R155). -/
def execReadMesh (s : State) : Host.Outcome State Fault Refusal :=
  .next (s.commandRow .readMesh 0)

/-- SET_EVENT_ENABLES (R108). -/
def execSetEventEnables (enables : BitVec 16) (s : State) : Host.Outcome State Fault Refusal :=
  .next (s.commandRow (.setEventEnables enables) 0)

/-- OPEN_CEREMONY (R114, R115). A label that no frame of 8 to 24 parameter bytes can hold makes a
frame of wrong length for the code, which a READY port completes with BAD_FRAME (R91)
(assumption log 31). -/
def execOpenCeremony (kind target generation components : Byte) (issuer : IssuerTag)
    (rights labelLength : Byte) (label : List Byte) (s : State) :
    Host.Outcome State Fault Refusal :=
  if label.length ≤ Config.labelMax then
    .next (s.commandRow
      (.openCeremony kind target generation components issuer rights labelLength label) 0)
  else
    match s.ci.port with
    | .ready _ => .next (s.refuse .badFrame)
    | .off | .starting | .executing _ => .next s

/-- ENTER_COMPONENT (R116, R117). -/
def execEnterComponent (custodian : Byte) (block1 block2 : Block) (check : CheckValue)
    (s : State) : Host.Outcome State Fault Refusal :=
  .next (s.commandRow (.enterComponent custodian block1 block2 check) 0)

/-- COMMIT (R119). -/
def execCommit (expected : CheckValue) (s : State) : Host.Outcome State Fault Refusal :=
  .next (s.commandRow (.commit expected) 0)

end Sys2Proof.Machine
end

