-- ==== Sys2Proof/Machine/Sensing.lean ====
section
/-! DEFINITION. The tamper monitor's and the sensing block's steps (07, 08): conversions, lid samples,
EMZ edges and battery samples. -/

namespace Sys2Proof.Machine

/-- A reading is evaluated in ARMED (R144 to R148). -/
def State.evaluate (m : Mesh) (reading : Nat) (s : State) : State :=
  let r := s.tm.mesh m
  let v := judge s.tm.window s.tm.strikeLimit reading r
  let s := s.withTm (s.tm.setMesh m (r.judged v s.tm.drift s.tm.window reading))
  match v with
  | .cut => s.trigger m.cause
  | .strike trips =>
    let s := s.raiseEvent .tamperStrike
    if trips then s.trigger m.cause else s
  | .within => s

/-- What the monitor does with a recorded reading, by its state (Table 8-2). -/
def State.takeReading (m : Mesh) (reading : Nat) (s : State) : State :=
  match s.tm.state with
  | .armed => s.evaluate m reading
  | .learning => s.learnReading m reading
  | .unarmed | .tripped => s

/-- A conversion completes with its integrator crossing zero at a count, not below the one that its
de-integration has reached (R138, R140, R144): the reading is recorded, the next NORMAL conversion starts, and the monitor takes the reading. -/
def State.completeConversion (cv : Conversion) (crossing : Nat) (s : State) : State :=
  let reading := normalise cv.runUpCount (cv.reading crossing)
  (s.withTm ((s.tm.record cv.mesh reading).afterConversion cv.mesh)).takeReading cv.mesh reading

/-- CONVERSION_COMPLETE (R144). With no conversion in progress nothing happens. -/
def execConversionComplete (crossing : Nat) (s : State) : Host.Outcome State Fault Refusal :=
  match s.tm.conversion with
  | none => .next s
  | some cv => .next (s.completeConversion cv crossing)

/-- HOLD_CONVERSION_START: on the HOLD schedule an idle converter starts on the other mesh from its
predecessor, at N = 512 (R141). -/
def execHoldConversionStart (s : State) : Host.Outcome State Fault Refusal :=
  match s.tm.schedule, s.tm.conversion with
  | .hold, none => .next (s.withTm (s.tm.begin s.tm.nextMesh Config.holdRunUp))
  | .hold, some _ | .normal, _ => .next s

/-- The run of disagreeing samples that changes a debounced state (R158). -/
def Supply.lidRun : Supply → Nat
  | .hold => Config.lidRunHold
  | .normal | .restarting .. => Config.lidRunNormal

/-- The lid sample interval, in periods of the 32,768 Hz crystal (R158, Table 9-3). It follows the supply
state, so hold entry, the beginning of a restart and a cold start change it in their own step and an
erase start keeps it (assumption log 27). LID_SAMPLE is the sample at its end (assumption log 16). -/
def Supply.lidInterval : Supply → Nat
  | .hold => Config.lidIntervalHold
  | .normal | .restarting .. => Config.lidIntervalNormal

/-- One sample of a lid contact (R158). -/
def Lid.sample (run : Nat) (isOpen : Bool) (l : Lid) : Lid :=
  if isOpen = l.isOpen then { l with disagree := 0 }
  else if run ≤ l.disagree + 1 then { isOpen := isOpen, disagree := 0 }
  else { l with disagree := l.disagree + 1 }

/-- A sample made a lid's debounced state OPEN. -/
def lidOpened (before after : Lid) : Bool :=
  !before.isOpen && after.isOpen

/-- A lid report, if a contact has opened. -/
def State.reportIf (opened : Bool) (s : State) : State :=
  if opened then s.lidReport else s

/-- LID_SAMPLE: both contacts are sampled and debounced in the same step, and each opening sends a lid
report to the monitor (R158, R159) (assumption log 23). -/
def execLidSample (aOpen bOpen : Bool) (s : State) : Host.Outcome State Fault Refusal :=
  let run := s.pwr.supply.lidRun
  let a := s.ess.lidA.sample run aOpen
  let b := s.ess.lidB.sample run bOpen
  let s' := s.withEss { s.ess with lidA := a, lidB := b }
  .next ((s'.reportIf (lidOpened s.ess.lidA a)).reportIf (lidOpened s.ess.lidB b))

/-- EMZ_FALLING_EDGE: the last level becomes LOW and an emergency trip goes to the Erase Controller
(R160). A level already LOW has no falling edge. -/
def execEmzFallingEdge (s : State) : Host.Outcome State Fault Refusal :=
  if s.ess.emzHigh then
    .next (((s.withEss { s.ess with emzHigh := false }).withPins
      { s.pins with emzHigh := false }).trigger .emergency)
  else .next s

/-- EMZ_RISING_EDGE: the last level becomes HIGH (R160). -/
def execEmzRisingEdge (s : State) : Host.Outcome State Fault Refusal :=
  .next ((s.withEss { s.ess with emzHigh := true }).withPins { s.pins with emzHigh := true })

/-- The result that a sample of VBAT latches (R165). -/
def latchResult (warning : Fin 4) (vbat : Nat) : BatteryResult :=
  { belowWarning := decide (vbat < warningMv warning),
    belowErase := decide (vbat < Config.eraseLevelMv) }

/-- A latched result is judged by the supply state (R166). -/
def State.judgeBattery (r : BatteryResult) (s : State) : State :=
  match s.pwr.supply with
  | .hold => s.judgeInHold (some r)
  | .normal | .restarting .. => s.raiseIf r.belowWarning .batteryWeak

/-- BATTERY_SAMPLE_LATCH: a sample in progress latches its result and is judged (R165, R166). With no
sample in progress nothing happens. -/
def execBatterySampleLatch (vbat : Nat) (s : State) : Host.Outcome State Fault Refusal :=
  match s.ess.sample with
  | none => .next s
  | some _ =>
    let r := latchResult s.ess.warning vbat
    .next ((s.withEss { s.ess with sample := none, result := some r }).judgeBattery r)

end Sys2Proof.Machine
end

