-- ==== Sys2Proof/Machine/Supply.lean ====
section
/-! DEFINITION. The main supply monitor, RESET, the retention feed, the cold start and the timebase
(08 9.4, 10), the two expiries of the console (R99, R103) and the erase pass (R173). -/

namespace Sys2Proof.Machine

/-! ## The main supply (R162, R163) -/

/-- A withdrawal from supply sensing clears a held request of the kind withdrawn (R183). -/
def PowerController.withdraw (kind : HeldRequest) (p : PowerController) : PowerController :=
  if p.held = kind then { p with held := .none } else p

/-- VDD reaches a level in normal power: the low timer starts below the criterion; at or above it the
timer stops, and a hold request sent is withdrawn (R162). -/
def State.lowTimerFollows (vdd : Nat) (s : State) : State :=
  if vdd < criterionMv s.ess.criterion then
    match s.ess.lowTimer with
    | .stopped => s.withEss { s.ess with lowTimer := .running 0 }
    | .running _ | .atLimit => s
  else
    let pwr := if s.ess.holdSent then s.pwr.withdraw .hold else s.pwr
    (s.withEss { s.ess with lowTimer := .stopped, holdSent := false }).withPwr pwr

/-- VDD reaches a level in hold: the return timer starts above the return level; at or below it the
timer stops, and a restart request sent is withdrawn (R163). -/
def State.returnTimerFollows (vdd : Nat) (s : State) : State :=
  if returnMv s.ess.criterion < vdd then
    match s.ess.returnTimer with
    | .stopped => s.withEss { s.ess with returnTimer := .running 0 }
    | .running _ | .atLimit => s
  else
    let pwr := if s.ess.returnTimer = .atLimit then s.pwr.withdraw .restart else s.pwr
    (s.withEss { s.ess with returnTimer := .stopped }).withPwr pwr

/-- VDD stands at a new level, and the address pins at theirs, which the next restart samples: the timer
that the supply state keeps follows VDD (R89, R162, R163) (assumption log 8 and 28). -/
def State.vddMoves (pins : SupplyPins) (s : State) : State :=
  let s := s.withPins { s.pins with vdd := pins.vdd, adr := pins.adr }
  match s.pwr.supply with
  | .normal | .restarting .. => s.lowTimerFollows pins.vdd
  | .hold => s.returnTimerFollows pins.vdd

/-- VDD_BELOW_CRITERION (R162). A level that is not below the criterion is no such event. -/
def execVddBelowCriterion (pins : SupplyPins) (s : State) : Host.Outcome State Fault Refusal :=
  if pins.vdd < criterionMv s.ess.criterion then .next (s.vddMoves pins) else .next s

/-- VDD_AT_CRITERION (R162). A level below the criterion is no such event. -/
def execVddAtCriterion (pins : SupplyPins) (s : State) : Host.Outcome State Fault Refusal :=
  if criterionMv s.ess.criterion ≤ pins.vdd then .next (s.vddMoves pins) else .next s

/-- VDD_ABOVE_RETURN_LEVEL (R163). A level not above the return level is no such event. -/
def execVddAboveReturnLevel (pins : SupplyPins) (s : State) : Host.Outcome State Fault Refusal :=
  if returnMv s.ess.criterion < pins.vdd then .next (s.vddMoves pins) else .next s

/-- VDD_AT_RETURN_LEVEL (R163). A level above the return level is no such event. -/
def execVddAtReturnLevel (pins : SupplyPins) (s : State) : Host.Outcome State Fault Refusal :=
  if pins.vdd ≤ returnMv s.ess.criterion then .next (s.vddMoves pins) else .next s

/-- A hold request reaches PWR in normal power: held during an erase, else hold entry (R183,
R185). -/
def State.requestHold (s : State) : State :=
  if s.erasing then s.withPwr { s.pwr with held := .hold } else s.holdEntry

/-- A restart request reaches PWR in HOLD: held during an erase, else the restart begins (R183,
R186). -/
def State.requestRestart (s : State) : State :=
  if s.erasing then s.withPwr { s.pwr with held := .restart } else s.beginRestart

/-- The supply state is NORMAL or RESTARTING (08, normal power). -/
def Supply.normalPower : Supply → Bool
  | .normal | .restarting .. => true
  | .hold => false

/-- A timer is running. -/
def Timer.isRunning : Timer → Bool
  | .running _ => true
  | .stopped | .atLimit => false

/-- The return timer runs under a level of VDD: it is running already, or it stands stopped at 0 while
VDD stands above the return level, as after a cold start at such a level, and so has begun to run since
(R163, R189; assumption log 33). -/
def SupplySensing.returnRuns (vdd : Nat) (e : SupplySensing) : Bool :=
  match e.returnTimer with
  | .running _ => true
  | .stopped => decide (returnMv e.criterion < vdd)
  | .atLimit => false

/-- LOW_TIMER_EXPIRY: the running low timer reaches 2 ms, and a hold request goes to PWR (R162). -/
def execLowTimerExpiry (s : State) : Host.Outcome State Fault Refusal :=
  if s.pwr.supply.normalPower && s.ess.lowTimer.isRunning then
    .next (s.withEss { s.ess with lowTimer := .atLimit, holdSent := true }).requestHold
  else .next s

/-- RETURN_TIMER_EXPIRY: the running return timer reaches 50 ms in hold, and a restart request goes to
PWR (R163). With the battery-lost latch set the next power-up is a cold start, so no restart is
requested (R167; assumption log 15). -/
def execReturnTimerExpiry (s : State) : Host.Outcome State Fault Refusal :=
  if !s.pwr.supply.normalPower && s.ess.returnRuns s.pins.vdd && !s.pwr.batteryLost then
    .next (s.withEss { s.ess with returnTimer := .atLimit }).requestRestart
  else .next s

/-! ## RESET (R178, R186) -/

/-- A RESET of 10 µs: in normal power it begins a restart, or is held during an erase; in hold it is
ignored (R178, R183, R185, R186; assumption log 9). -/
def State.requestReset (s : State) : State :=
  if s.pwr.supply.normalPower then
    if s.erasing then s.withPwr { s.pwr with held := .restart, resetHeld := true }
    else s.beginRestart
  else s

/-- RESET_LOW (R186). -/
def execResetLow (s : State) : Host.Outcome State Fault Refusal :=
  .next (s.withPins { s.pins with resetLow := true }).requestReset

/-- A restart resting after step 1 goes on, unless an erase in progress holds it back (R186, R187). -/
def State.releaseReset (s : State) : State :=
  match s.pwr.supply with
  | .restarting .initialised cold => if s.erasing then s else s.continueRestart cold
  | .restarting (.checking _) _ | .restarting .checked _ | .normal | .hold => s

/-- RESET_RELEASE (R186). -/
def execResetRelease (s : State) : Host.Outcome State Fault Refusal :=
  .next (s.withPins { s.pins with resetLow := false }).releaseReset

/-! ## Retention feed and cold start (R167, R189) -/

/-- The part without its retention feed: the contents are lost, keys and an erase under way with them,
and the battery-lost latch is set (R167, R178). What stands in the lost cells until the cold start
cannot be read, since both ports stay OFF until then; the model puts the cold-start values there
(DESIGN CHOICE, assumption log 15). -/
def State.unfed (s : State) : State :=
  let lost := (State.cold s.pins).withPending s.pending
  lost.withPwr { lost.pwr with batteryLost := true }

/-- RETENTION_FEED_LOSS (R167). -/
def execRetentionFeedLoss (s : State) : Host.Outcome State Fault Refusal :=
  .next s.unfed

/-- COLD_START: power-up with the battery-lost latch set gives every item its cold-start value (R189).
With the latch clear there is no cold start (assumption log 3 and 14). -/
def execColdStart (emzHigh : Bool) (adr : BitVec 2) (vdd : Nat) (s : State) :
    Host.Outcome State Fault Refusal :=
  if s.pwr.batteryLost then
    .next ((State.cold { s.pins with vdd := vdd, emzHigh := emzHigh, adr := adr }).withPending
      s.pending)
  else .next s

/-! ## The timebase (R184) and the expiries -/

/-- The challenge whose drawing reading plus 60 equals the count that stands is discarded (R99). -/
def State.expireChallenge (s : State) : State :=
  match s.ci.challenge with
  | none => s
  | some c =>
    if c.drawnAt + BitVec.ofNat 32 Config.challengeLife = s.pwr.seconds then
      s.withCi { s.ci with challenge := none }
    else s

/-- A battery sample starts when the count that stands is a multiple of 16 (R165)
(assumption log 32). -/
def State.startSample (s : State) : State :=
  if s.pwr.seconds.toNat % Config.samplePeriod = 0 then s.withEss { s.ess with sample := some 0 }
  else s

/-- CABINET_SECOND_ADVANCE: cabinet seconds advance by 1, and the window, the challenge and the
battery monitor take the advance in the same step (R184). -/
def execCabinetSecondAdvance (s : State) : Host.Outcome State Fault Refusal :=
  let s := s.withPwr { s.pwr with seconds := s.pwr.seconds + 1 }
  .next s.tickWindow.expireChallenge.startSample

/-- WINDOW_EXPIRY: a running window that stands at 0 expires, or its expiry is held pending (R103;
assumption log 5). -/
def execWindowExpiry (s : State) : Host.Outcome State Fault Refusal :=
  if s.ci.window.running && decide (s.ci.window.remaining = 0) then .next s.windowAtZero else .next s

/-- CHALLENGE_EXPIRY: a challenge that has lived 60 seconds is discarded (R99; assumption log 5). -/
def execChallengeExpiry (s : State) : Host.Outcome State Fault Refusal :=
  .next s.expireChallenge

/-! ## The erase pass (R173) -/

/-- ERASE_ENTRY: the entry at the erase position is emptied and the position moves on; after entry 95
the erase completes (R173, R175). With no erase in progress nothing happens. -/
def execEraseEntry (s : State) : Host.Outcome State Fault Refusal :=
  match s.ec.position with
  | none => .next s
  | some i => .next (s.eraseAt i)

end Sys2Proof.Machine
end

