-- ==== Sys2Proof/Machine/Tick.lean ====
section
/-! DEFINITION. What goes on inside the part between its named steps, as the step of an empty queue:
each count that runs inside a duration advances by one unit of its own clock, up to but never past
the next event that has a row of its own in the opcode table (DESIGN CHOICE, assumption log 1). -/

namespace Sys2Proof.Machine

/-- One HCK period (R69, R70, R82): the ENABLING count rises short of 64, and inside a frame the
position advances by one bit within its slot, the bit period that ends being sampled. The first bit
period of an assigned slot waits for its word to be fixed, and the last for SLOT_END. -/
def LineHighway.tick (pins : Pins) (l : LineHighway) : LineHighway :=
  match l.highway with
  | .enabling n =>
    if n + 1 < Config.enablingPeriods then { l with highway := .enabling (n + 1) } else l
  | .running (.inFrame slot bit) =>
    if bit = 0 ∨ (bit = 31 ∧ l.tx = none ∧ (l.active.channel slot).isSome) then l
    else { l with highway := .running (.inFrame slot (bit - 1)), rx := sampleBit pins bit l.rx }
  | .running .gap | .off => l

/-- One count of a conversion (R138): run-up to N, then de-integration to 2N. -/
def Conversion.tick (c : Conversion) : Conversion :=
  match c.phase with
  | .runUp =>
    if c.count + 1 < c.runUpCount then { c with count := c.count + 1 }
    else { c with phase := .deIntegrate, count := 0 }
  | .deIntegrate => if c.count < 2 * c.runUpCount then { c with count := c.count + 1 } else c

/-- One microsecond of a running supply timer, short of its limit. -/
def Timer.tick (limit : Nat) : Timer → Timer
  | .running e => if e + 1 < limit then .running (e + 1) else .running e
  | .stopped => .stopped
  | .atLimit => .atLimit

/-- One microsecond of the return timer: in hold one that stands stopped while VDD stands above the
return level begins to run at 0, as after a cold start at such a level (R163, R189; assumption
log 33). -/
def State.returnTick (s : State) : Timer :=
  match s.pwr.supply, s.ess.returnTimer with
  | .hold, .stopped => if returnMv s.ess.criterion < s.pins.vdd then .running 0 else .stopped
  | _, timer => timer.tick Config.returnTimerLimit

/-- One microsecond of the settle time of a battery sample, short of its end (R165). -/
def settleTick (e : Nat) : Nat :=
  if e + 1 < Config.settleLimit then e + 1 else e

/-- The step of an empty queue. -/
def State.tick (s : State) : State :=
  { s with
    lhi := s.lhi.tick s.pins
    cc := s.cc.operate
    tm := { s.tm with conversion := s.tm.conversion.map Conversion.tick }
    ess := { s.ess with
      lowTimer := s.ess.lowTimer.tick Config.lowTimerLimit
      returnTimer := s.returnTick
      sample := s.ess.sample.map settleTick } }

end Sys2Proof.Machine
end

