-- ==== Sys2Proof/Machine/Dispatch.lean ====
section
/-! DEFINITION. One arm per command: the meaning of each row of the opcode table, called by name. -/

namespace Sys2Proof.Machine

/-- A command's effect on everything but the queue. -/
def exec (i : Instr) (s : State) : Host.Outcome State Fault Refusal :=
  match i with
  | .frameStart => Sys2Proof.Machine.execFrameStart s
  | .earlyFrameSync => Sys2Proof.Machine.execEarlyFrameSync s
  | .slotWordFixed => Sys2Proof.Machine.execSlotWordFixed s
  | .slotEnd hrd hrm sentFirst => Sys2Proof.Machine.execSlotEnd hrd hrm sentFirst s
  | .assemblyTimeout c => Sys2Proof.Machine.execAssemblyTimeout c s
  | .highwayRunning => Sys2Proof.Machine.execHighwayRunning s
  | .suSelection => Sys2Proof.Machine.execSuSelection s
  | .ccClaimComplete => Sys2Proof.Machine.execCcClaimComplete s
  | .badFrame write => Sys2Proof.Machine.execBadFrame write s
  | .commandComplete draw => Sys2Proof.Machine.execCommandComplete draw s
  | .status => Sys2Proof.Machine.execStatus s
  | .challenge draw => Sys2Proof.Machine.execChallenge draw s
  | .respond n response => Sys2Proof.Machine.execRespond n response s
  | .readEvents => Sys2Proof.Machine.execReadEvents s
  | .readTamperRecord => Sys2Proof.Machine.execReadTamperRecord s
  | .logoff n => Sys2Proof.Machine.execLogoff n s
  | .cancelCeremony => Sys2Proof.Machine.execCancelCeremony s
  | .zeroize => Sys2Proof.Machine.execZeroize s
  | .measureNow => Sys2Proof.Machine.execMeasureNow s
  | .readEntry index => Sys2Proof.Machine.execReadEntry index s
  | .readChannel n => Sys2Proof.Machine.execReadChannel n s
  | .readMesh => Sys2Proof.Machine.execReadMesh s
  | .setEventEnables e => Sys2Proof.Machine.execSetEventEnables e s
  | .openCeremony kind target generation components issuer rights labelLength label => Sys2Proof.Machine.execOpenCeremony kind target generation components issuer rights labelLength label s
  | .enterComponent n block1 block2 check => Sys2Proof.Machine.execEnterComponent n block1 block2 check s
  | .commit expected => Sys2Proof.Machine.execCommit expected s
  | .cabinetSecondAdvance => Sys2Proof.Machine.execCabinetSecondAdvance s
  | .windowExpiry => Sys2Proof.Machine.execWindowExpiry s
  | .challengeExpiry => Sys2Proof.Machine.execChallengeExpiry s
  | .batterySampleLatch vbat => Sys2Proof.Machine.execBatterySampleLatch vbat s
  | .conversionComplete crossing => Sys2Proof.Machine.execConversionComplete crossing s
  | .holdConversionStart => Sys2Proof.Machine.execHoldConversionStart s
  | .lidSample aOpen bOpen => Sys2Proof.Machine.execLidSample aOpen bOpen s
  | .emzFallingEdge => Sys2Proof.Machine.execEmzFallingEdge s
  | .emzRisingEdge => Sys2Proof.Machine.execEmzRisingEdge s
  | .vddBelowCriterion pins => Sys2Proof.Machine.execVddBelowCriterion pins s
  | .vddAtCriterion pins => Sys2Proof.Machine.execVddAtCriterion pins s
  | .lowTimerExpiry => Sys2Proof.Machine.execLowTimerExpiry s
  | .vddAboveReturnLevel pins => Sys2Proof.Machine.execVddAboveReturnLevel pins s
  | .vddAtReturnLevel pins => Sys2Proof.Machine.execVddAtReturnLevel pins s
  | .returnTimerExpiry => Sys2Proof.Machine.execReturnTimerExpiry s
  | .resetLow => Sys2Proof.Machine.execResetLow s
  | .resetRelease => Sys2Proof.Machine.execResetRelease s
  | .retentionFeedLoss => Sys2Proof.Machine.execRetentionFeedLoss s
  | .coldStart emzHigh adr vdd => Sys2Proof.Machine.execColdStart emzHigh adr vdd s
  | .eraseEntry => Sys2Proof.Machine.execEraseEntry s
  | .commandTaken write => Sys2Proof.Machine.execCommandTaken write s

end Sys2Proof.Machine
end

