-- ==== Sys2Proof/Safety.lean ====
section
/-! DEFINITION. What a safe state is, in the terms the claims use: the laws that the chapters state of
the whole part in every state a step leaves. Each law is shaped so that a step keeps it on its own: it
names the conditions in other blocks that it rests on. -/

namespace Sys2Proof.Machine

/-! ## Key material (R21, R171, R173) -/

/-- No key value stands in the Key Table and no channel holds a transport key. -/
def State.noKeys (s : State) : Prop :=
  (∀ i : EntryIndex, (s.entry i).isHeld = false) ∧ ∀ c : ChannelNo, (s.channel c).transport = none

/-- The law of R21 with what it rests on during an erase, and the rule of R32 on waiting claims. -/
structure State.KeyLaw (s : State) : Prop where
  /-- Outside an erase, keys only while ARMED (R21). -/
  armedOnly : s.ec.position = none → s.tm.state ≠ .armed → s.noKeys
  /-- During an erase the monitor is TRIPPED (R137). -/
  tripped : s.ec.position ≠ none → s.tm.state = .tripped
  /-- During an erase no channel holds a transport key (R171, part 3). -/
  noTransport : s.ec.position ≠ none → ∀ c : ChannelNo, (s.channel c).transport = none
  /-- Every entry before the erase position is EMPTY (R173). -/
  passed : ∀ p, s.ec.position = some p → ∀ i : EntryIndex, i < p → s.entry i = .empty
  /-- A waiting claim holds no key values of the Service Unit (R32). -/
  waiting : ∀ job, .held job ∈ s.cc.waiting → job.claimant ≠ .su
  /-- Only the three commands of R92 are in progress during an erase (R92, R93). -/
  servedOnly : s.ec.position ≠ none → ∀ c, s.ci.port = .executing c → c.servedDuringErase = true

/-- An OPEN or HALTED channel holds a transport key (R54). -/
def State.ChannelKeyLaw (s : State) : Prop :=
  ∀ c : ChannelNo, (s.channel c).state ≠ .closed → (s.channel c).transport ≠ none

/-! ## The admitted count (R50) -/

/-- The places of a channel's admitted requests: request queue, in service, reply queue. -/
def State.places (c : ChannelNo) (s : State) : Nat :=
  (s.channel c).requests.length + (if s.channelInService c then 1 else 0) +
    (s.channel c).replies.length

/-- The count of R50 of every channel, with the ranges of Table 4-1. -/
structure State.CountLaw (s : State) : Prop where
  /-- The admitted count is the number of requests in the three places. -/
  counted : ∀ c : ChannelNo, (s.channel c).admitted = s.places c
  /-- It never exceeds 4 (R56). -/
  most : ∀ c : ChannelNo, (s.channel c).admitted ≤ 4
  /-- The outstanding limit is 1 to 4 (R55). -/
  limit : ∀ c : ChannelNo, 1 ≤ (s.channel c).limit ∧ (s.channel c).limit ≤ 4

/-! ## Entries (R2, R6, R15, R16) -/

/-- The ranges of an entry: its allowance, its used count, and a previous number below the current
one. -/
structure Entry.Ranged (e : Entry) : Prop where
  /-- R15. -/
  allowance : e.allowance ≤ 16777215
  /-- R16. -/
  used : e.used ≤ 4294967295
  /-- R6. -/
  order : ∀ d b g p, e = .held d b g (some p) → p.number < g.number

/-- Every entry is in its ranges. -/
def State.EntryLaw (s : State) : Prop :=
  ∀ i : EntryIndex, (s.entry i).Ranged

/-! ## Presence (R101, R102, R112) -/

/-- What a waiting claim carries with it: the Service Unit's nothing (R32). -/
def WaitingClaim.held? : WaitingClaim → Option Job
  | .held job => some job
  | .service => none

/-- The claims of the Custodian Interface and the Ceremony Controller that hold the Cipher Core or wait
for it (R34, R35). -/
def CipherCore.consoleClaims (cc : CipherCore) : List Job :=
  (cc.current.toList.map (·.job) ++ cc.waiting.filterMap WaitingClaim.held?).filter Job.custodianSide

/-- The presence list, its window and the ceremony context. -/
structure State.PresenceLaw (s : State) : Prop where
  /-- At most three custodians (R101). -/
  most : s.ci.presence.length ≤ 3
  /-- None twice (R101). -/
  once : s.ci.presence.Nodup
  /-- Each ENROLLED (R101). -/
  enrolled : ∀ c ∈ s.ci.presence, (s.custodian c).state = .enrolled
  /-- The window runs exactly while the list is not empty (R102). -/
  window : s.ci.window.running = true ↔ s.ci.presence ≠ []
  /-- A ceremony context exists only while at least two custodians are present (R112). -/
  two : s.cec ≠ none → 2 ≤ s.ci.presence.length
  /-- A RESPOND in progress that its checks have not refused names a custodian that may still join
  (R100). -/
  joins : ∀ n r c, s.ci.port = .executing (.respond n r) → s.ci.decided = none →
    custodianNo? n = some c →
      (s.custodian c).state = .enrolled ∧ c ∉ s.ci.presence ∧ s.ci.presence.length < 3
  /-- A command that completes when it is taken is never left in progress (R154, R172). -/
  acted : ∀ c, s.ci.port = .executing c → c.actsAtTake = false
  /-- Only a command in progress that makes checks of its own at the take has its outcome decided ahead
  of its completion (R93, R100, R115, R116, R119). -/
  decided : s.ci.decided ≠ none → ∃ c, s.ci.port = .executing c ∧ c.decidesAtTake = true
  /-- The outcome of an OPEN_CEREMONY in progress is decided: it makes no claim (R115). -/
  checked : ∀ kind target generation components issuer rights labelLength label,
    s.ci.port = .executing
      (.openCeremony kind target generation components issuer rights labelLength label) →
    s.ci.decided ≠ none
  /-- At most one claim of the Custodian Interface or the Ceremony Controller holds the Cipher Core or
  waits for it, and only while a command that makes a claim is in progress with nothing decided (R35,
  R93). -/
  claimed : s.cc.consoleClaims ≠ [] → s.cc.consoleClaims.length = 1 ∧ s.ci.decided = none ∧
    ∃ c, s.ci.port = .executing c ∧ c.makesClaim = true
  /-- The port takes and serves commands in NORMAL alone (R90, R185, R187). -/
  off : s.pwr.supply ≠ .normal → s.ci.port = .off ∨ s.ci.port = .starting

/-! ## The meshes (R143, R147) -/

/-- While ARMED, the baseline of a mesh lies within W of its learned value, and its last reading is a
normalised one. -/
def MeshRecord.InBand (armed : Bool) (window : Nat) (r : MeshRecord) : Prop :=
  (armed = true → r.baseline ≤ r.learned + window ∧ r.learned ≤ r.baseline + window) ∧
    r.lastM ≤ 8192

/-- Both meshes are in band (R147). -/
def State.BandLaw (s : State) : Prop :=
  s.tm.meshA.InBand (s.tm.state == .armed) s.tm.window ∧
    s.tm.meshB.InBand (s.tm.state == .armed) s.tm.window

/-! ## The highway (R70, R71, R78, R82) -/

/-- The frame position and the words in progress of the highway, and the ranges of its settings. -/
structure State.HighwayLaw (s : State) : Prop where
  /-- A slot of the frame is one of the active map's S slots, and a bit is 31 to 0 (R70). -/
  position : ∀ slot bit, s.lhi.highway = .running (.inFrame slot bit) →
    slot < s.lhi.active.length ∧ bit ≤ 31
  /-- A reply word is in progress only in a slot of its channel (R69, R80). -/
  word : ∀ tx, s.lhi.tx = some tx → ∃ slot bit, s.lhi.highway = .running (.inFrame slot bit) ∧
    s.lhi.active.channel slot = some tx.channel
  /-- A received word is in progress in a slot of which a bit period has ended (R69, R74). -/
  received : s.lhi.rx ≠ none ↔ ∃ slot bit, s.lhi.highway = .running (.inFrame slot bit) ∧ bit < 31
  /-- The bits of a slot not sampled yet stand at 0 in the received word (R69). -/
  sampled : ∀ slot bit r, s.lhi.highway = .running (.inFrame slot bit) → s.lhi.rx = some r →
    ∀ n, n ≤ bit → r.data.getLsbD n = false
  /-- S of the active map is 2 to 16 (R71). -/
  active : 2 ≤ s.lhi.active.length ∧ s.lhi.active.length ≤ 16
  /-- S of a pending map is 2 to 16 (R71, R129). -/
  waiting : ∀ m, s.lhi.pendingMap = some m → 2 ≤ m.length ∧ m.length ≤ 16
  /-- The ENABLING count stands below 64 until the highway runs (R82). -/
  enabling : ∀ n, s.lhi.highway = .enabling n → n < 64
  /-- The assembly timeout is 16 to 1024 frames (R78). -/
  timeout : 16 ≤ s.lhi.timeout ∧ s.lhi.timeout ≤ 1024
  /-- The highway is OFF in HOLD and in RESTARTING (R82, R187). -/
  off : s.pwr.supply ≠ .normal → s.lhi.highway = .off

/-! ## The terms of the statements -/

/-- The port can take a command of a class that needs `n` custodians (R90, R92): READY, no erase in
progress, that many present. -/
def State.TakesWith (n : Nat) (s : State) : Prop :=
  (∃ reply, s.ci.port = .ready reply) ∧ s.ec.position = none ∧ n ≤ s.ci.presence.length

/-- The state with the presence window restarted: a running window's count is L again (R102). -/
def State.windowRestarted (s : State) : State :=
  { s with ci.window.remaining := if s.ci.window.running then s.ci.window.length
                                  else s.ci.window.remaining }

/-- The word and mark that a slot standing at a bit has received at its end: the bits sampled before, the
rest as HRD stands in their bit periods, and the mark as HRM stands in the first (R69, R74). -/
def State.Receives (bit : Nat) (hrd hrm : Word) (mark : Bool) (w : Word) (s : State) : Prop :=
  mark = (match s.lhi.rx with
    | some r => r.mark
    | none => hrm.getLsbD 31) ∧
  ∀ n, n < 32 → w.getLsbD n = if n ≤ bit then hrd.getLsbD n else
    (match s.lhi.rx with
    | some r => r.data.getLsbD n
    | none => false)

/-- How late the search of R26 comes to a channel: the one after the pointer first, the pointer's own
channel last. -/
def searchDistance (pointer c : ChannelNo) : Nat :=
  (c.val + 7 - pointer.val) % 8

/-- A channel that the Service Unit may take from: OPEN with a request waiting (R26). -/
def State.Waits (c : ChannelNo) (s : State) : Prop :=
  (s.channel c).state = .opened ∧ (s.channel c).requests ≠ []

/-- The channel that the next selection takes from (R26). -/
def State.NextServed (c : ChannelNo) (s : State) : Prop :=
  s.su.inService = none ∧ s.Waits c ∧
    ∀ d, s.Waits d → searchDistance s.su.pointer c ≤ searchDistance s.su.pointer d

/-- An entry with its key values put to zero. -/
def Entry.withoutValues : Entry → Entry
  | .empty => .empty
  | .held d suspended current previous =>
    .held d suspended { current with value := 0 } (previous.map fun g => { g with value := 0 })
  | .faulted d number check => .faulted d number check

/-- The state with every key value put to zero: entries, transport keys, verification keys, the
combined value of a ceremony, the bound copies, and an empty Cipher Core. -/
def State.withoutSecrets (s : State) : State :=
  { s with
    kt.entries := s.kt.entries.map Entry.withoutValues
    channels := s.channels.map fun ch =>
      { ch with transport := ch.transport.map fun g => { g with value := 0 } }
    ci.custodians := s.ci.custodians.map fun r => { r with key := 0 }
    cec := s.cec.map fun x => { x with combined := 0 }
    su.inService := s.su.inService.map fun r => { r with bound.master := 0, bound.transport := 0 }
    cc := CipherCore.idle }

/-- The row of the opcode table that spells a console command by itself, if it has one; a CHALLENGE
row carries its draw. -/
def Command.row? (draw : Block) : Command → Option Instr
  | .status => some .status
  | .challenge => some (.challenge draw)
  | .respond n response => some (.respond n response)
  | .readEvents => some .readEvents
  | .readTamperRecord => some .readTamperRecord
  | .logoff n => some (.logoff n)
  | .cancelCeremony => some .cancelCeremony
  | .zeroize => some .zeroize
  | .measureNow => some .measureNow
  | .readEntry i => some (.readEntry i)
  | .readChannel n => some (.readChannel n)
  | .readMesh => some .readMesh
  | .setEventEnables e => some (.setEventEnables e)
  | .openCeremony kind target generation components issuer rights labelLength label =>
    some (.openCeremony kind target generation components issuer rights labelLength label)
  | .enterComponent n block1 block2 check => some (.enterComponent n block1 block2 check)
  | .commit expected => some (.commit expected)
  | _ => none

/-- Codes and parameter lengths of Table 6-8: code, least n, most n. -/
def frameTable : List (Nat × Nat × Nat) :=
  [(0x01, 0, 0), (0x02, 0, 0), (0x03, 17, 17), (0x04, 0, 0), (0x05, 0, 0), (0x08, 1, 1),
   (0x09, 0, 0), (0x0A, 0, 0), (0x0B, 0, 0), (0x0C, 1, 1), (0x0D, 1, 1), (0x0E, 0, 0),
   (0x0F, 2, 2), (0x10, 8, 24), (0x11, 36, 36), (0x12, 3, 3), (0x18, 4, 4), (0x19, 1, 1),
   (0x1A, 2, 2), (0x1B, 1, 120), (0x1C, 1, 1), (0x1D, 1, 1), (0x1E, 1, 1), (0x1F, 1, 1),
   (0x20, 2, 2), (0x28, 1, 1), (0x29, 1, 1), (0x2A, 1, 1), (0x2B, 1, 1), (0x2C, 4, 4),
   (0x2D, 1, 1), (0x30, 17, 17), (0x31, 2, 2), (0x38, 0, 0), (0x39, 0, 0), (0x3A, 5, 5),
   (0x3B, 0, 0), (0x40, 2, 2), (0x48, 36, 36), (0x49, 1, 1), (0x4A, 1, 1), (0x4B, 2, 2)]

/-- The number that `n` parameter bytes from place `i` spell, most significant byte first (05 6.8). -/
def spelledNumber (p : List Byte) (i n : Nat) : Nat :=
  (List.range n).foldl (fun v j => 256 * v + (p.getD (i + j) 0).toNat) 0

/-- Codes of Table 6-8, each with the command that parameter bytes spell under it, in the order in which
the rules and Table 7-2 give them (R98, R100, R104, R108, R113, Table 6-8). -/
def spelling (p : List Byte) : List (Nat × Command) :=
  let byte (i : Nat) : Byte := p.getD i 0
  let two (i : Nat) : BitVec 16 := BitVec.ofNat 16 (spelledNumber p i 2)
  let three (i : Nat) : BitVec 24 := BitVec.ofNat 24 (spelledNumber p i 3)
  let block (i : Nat) : Block := BitVec.ofNat 128 (spelledNumber p i 16)
  [(0x01, .status), (0x02, .challenge), (0x03, .respond (byte 0) (block 1)), (0x04, .readEvents),
   (0x05, .readTamperRecord), (0x08, .logoff (byte 0)), (0x09, .cancelCeremony), (0x0A, .zeroize),
   (0x0B, .measureNow), (0x0C, .readEntry (byte 0)), (0x0D, .readChannel (byte 0)),
   (0x0E, .readMesh), (0x0F, .setEventEnables (two 0)),
   (0x10, .openCeremony (byte 0) (byte 1) (byte 2) (byte 3) (two 4) (byte 6) (byte 7) (p.drop 8)),
   (0x11, .enterComponent (byte 0) (block 1) (block 17) (three 33)), (0x12, .commit (three 0)),
   (0x18, .grantAllowance (byte 0) (three 1)), (0x19, .revokeAllowance (byte 0)),
   (0x1A, .setRights (byte 0) (byte 1)), (0x1B, .setLabel (byte 0) (p.drop 1)),
   (0x1C, .suspendEntry (byte 0)), (0x1D, .resumeEntry (byte 0)), (0x1E, .retireEntry (byte 0)),
   (0x1F, .dropPrevious (byte 0)), (0x20, .setAllowanceThreshold (two 0)),
   (0x28, .channelOpen (byte 0)), (0x29, .channelHalt (byte 0)), (0x2A, .channelResume (byte 0)),
   (0x2B, .channelClose (byte 0)), (0x2C, .setChannel (byte 0) (two 1) (byte 3)),
   (0x2D, .flushChannel (byte 0)), (0x30, .writeSlotMap (byte 0) (p.drop 1)),
   (0x31, .setAssemblyTimeout (two 0)), (0x38, .arm), (0x39, .disarm),
   (0x3A, .setMesh (byte 0) (two 1) (byte 3) (byte 4)), (0x3B, .ackTrip),
   (0x40, .setSupply (byte 0) (byte 1)),
   (0x48, .enrolCustodian (byte 0) (BitVec.ofNat 256 (spelledNumber p 1 32)) (three 33)),
   (0x49, .removeCustodian (byte 0)), (0x4A, .unlockCustodian (byte 0)), (0x4B, .setWindow (two 0))]

/-- Codes and classes of Table 6-8, that of 48h as it stands where R95 makes no exception. -/
def classTable : List (Nat × PresenceClass) :=
  [(0x01, .none), (0x02, .none), (0x03, .none), (0x04, .none), (0x05, .none), (0x08, .one),
   (0x09, .one), (0x0A, .one), (0x0B, .one), (0x0C, .one), (0x0D, .one), (0x0E, .one),
   (0x0F, .one), (0x10, .two), (0x11, .two), (0x12, .two), (0x18, .two), (0x19, .two),
   (0x1A, .two), (0x1B, .two), (0x1C, .two), (0x1D, .two), (0x1E, .two), (0x1F, .two),
   (0x20, .two), (0x28, .two), (0x29, .two), (0x2A, .two), (0x2B, .two), (0x2C, .two),
   (0x2D, .two), (0x30, .two), (0x31, .two), (0x38, .two), (0x39, .two), (0x3A, .two),
   (0x3B, .two), (0x40, .two), (0x48, .two), (0x49, .two), (0x4A, .two), (0x4B, .two)]

/-! ## Runs -/

/-- What a step keeps: a next state after a state with the law has it too. -/
def Kept (law : State → Prop) : Prop :=
  ∀ s t, law s → step s = .next t → law t

end Sys2Proof.Machine
end

