-- ==== Sys2Proof/Certificates/Slice0/Obligations.lean ====
section
/-! DEFINITION. The statements for the provers. A statement of a command's result is an equation with
the whole next state, so it says what the command leaves as it stood as well. The flags are named by
their bits of Table 6-6; a reply frame is placed by `State.finish`, which `ReplyFrameIsPlaced` spells
out. -/

section

open Sys2Proof Sys2Proof.Machine

/-! ## The machine -/

/-- One step runs the command at the front of the queue on the queue's rest; on an empty queue only
the counts inside a duration advance, each by one unit and short of the next event that has a row (the
model's choice, assumption log 1): the ENABLING count; a bit period of a slot, which samples the lines; an
operation of the current claim, whose job stands and whose keys so far stand in the key buffer; the count
of the conversion; the timers and the settle time. In hold a stopped return timer starts where VDD
stands above the return level (assumption log 33). All else stands, waiting claims too. -/
def Obligations.StepRunsTheFrontCommand : Prop :=
  (∀ c rest s, s.pending = c :: rest → step s = exec c { s with pending := rest }) ∧
  ∀ s, s.pending = [] →
    let operations (job : Job) : Nat :=
      match job with
      | .derive _ _ blocks => 3 * blocks.length
      | .component .. => 3
      | .checkEntry _ (some _) => 2
      | .respond .. | .commit _ | .checkEntry _ none | .checkTransport _ => 1
    let buffer (job : Job) (done : Nat) : List CipherKey :=
      match job with
      | .derive master transport blocks => .long master :: .long transport ::
          (blocks.take ((done + 2) / 3)).map fun d => .short (encrypt256 master d)
      | .component key block1 block2 => .long key ::
          if 2 ≤ done then [.long (decrypt256 key block1 ++ decrypt256 key block2)] else []
      | .respond key _ => [.long key]
      | .commit value | .checkTransport value => [.long value]
      | .checkEntry current none => [.long current]
      | .checkEntry current (some previous) => [.long current, .long previous]
    let counts (limit : Nat) (timer : Timer) : Timer :=
      match timer with
      | .running e => .running (if e + 1 < limit then e + 1 else e)
      | timer => timer
    let waits (slot bit : Nat) : Prop :=
      bit = 0 ∨ (bit = 31 ∧ s.lhi.tx = none ∧ s.lhi.active.channel slot ≠ none)
    let level (bit : Nat) : Word := if s.pins.hrd.getLsbD bit then 1#32 <<< bit else 0
    step s = .next { s with
      lhi.highway := match s.lhi.highway with
        | .enabling n => .enabling (if n + 1 < 64 then n + 1 else n)
        | .running (.inFrame slot bit) =>
          .running (.inFrame slot (if waits slot bit then bit else bit - 1))
        | highway => highway
      lhi.rx := match s.lhi.highway with
        | .running (.inFrame slot bit) =>
          if waits slot bit then s.lhi.rx
          else if bit = 31 then some { mark := s.pins.hrm.getLsbD 31, data := level bit }
          else s.lhi.rx.map fun r => { r with data := r.data ||| level bit }
        | _ => s.lhi.rx
      cc := match s.cc.current with
        | none => s.cc
        | some claim =>
          if claim.done + 1 < operations claim.job then
            { keyBuffer := buffer claim.job (claim.done + 1)
              current := some { job := claim.job, done := claim.done + 1 }
              waiting := s.cc.waiting }
          else s.cc
      tm.conversion := s.tm.conversion.map fun cv =>
        match cv.phase with
        | .runUp =>
          if cv.count + 1 < cv.runUpCount then { cv with count := cv.count + 1 }
          else { cv with phase := .deIntegrate, count := 0 }
        | .deIntegrate =>
          { cv with count := if cv.count < 2 * cv.runUpCount then cv.count + 1 else cv.count }
      ess.lowTimer := counts 2000 s.ess.lowTimer
      ess.returnTimer :=
        if s.pwr.supply = .hold ∧ s.ess.returnTimer = .stopped ∧
            3100 - 50 * s.ess.criterion.val < s.pins.vdd then .running 0
        else counts 50000 s.ess.returnTimer
      ess.sample := s.ess.sample.map fun e => if e + 1 < 1000 then e + 1 else e }

/-- No command touches the queue of waiting commands. -/
def Obligations.ExecKeepsTheQueue : Prop :=
  ∀ c s t, exec c s = .next t → t.pending = s.pending

/-- Every command answers a next state in every state in which an OPEN or HALTED channel holds a
transport key (R54, last sentence but one). -/
def Obligations.EveryCommandAnswersNext : Prop :=
  ∀ c s, s.ChannelKeyLaw → ∃ t, exec c s = .next t

/-- The state after a cold start: the initial values of Table 11-3 and the Cold start columns of the
chapters' tables. -/
def Obligations.ResetIsTheColdStart : Prop :=
  (∀ i, State.reset.entry i = .empty) ∧ State.reset.kt.threshold = 0 ∧
  (∀ c, State.reset.channel c =
    { state := .closed, transport := none, binding := none, limit := 2, served := 0, requests := [],
      replies := [], sent := none, refusal := none, assembly := none, admitted := 0 }) ∧
  State.reset.su = { pointer := 7, inService := none } ∧
  State.reset.cc = { keyBuffer := [], current := none, waiting := [] } ∧
  State.reset.lhi =
    { highway := .off, active := { length := 16, slots := Vector.replicate 16 none },
      pendingMap := none, timeout := 256, compared := 256, tx := none, rx := none } ∧
  (∀ n, State.reset.custodian n = { state := .vacant, key := 0, check := 0, failures := 0 }) ∧
  State.reset.ci.port = .off ∧ State.reset.ci.decided = none ∧ State.reset.ci.presence = [] ∧
  State.reset.ci.window = { remaining := 0, running := false, length := 300 } ∧
  State.reset.ci.expiryPending = false ∧ State.reset.ci.challenge = none ∧
  State.reset.ci.random = { lastPassed := none, test := .noTest } ∧
  State.reset.ci.flags = 0 ∧ State.reset.ci.enables = 0 ∧
  State.reset.ci.violations = { pair := none, count := 0 } ∧
  State.reset.cec = none ∧
  State.reset.tm.state = .unarmed ∧ State.reset.tm.runUpCount = 2048 ∧
  State.reset.tm.window = 96 ∧ State.reset.tm.strikeLimit = 2 ∧ State.reset.tm.drift = true ∧
  (∀ m, State.reset.tm.mesh m =
    { learned := 0, baseline := 0, strikes := 0, lastM := 0, lastValid := false }) ∧
  State.reset.tm.conversion =
    some { mesh := .a, runUpCount := 512, phase := .runUp, count := 0 } ∧
  State.reset.tm.schedule = .hold ∧ State.reset.tm.learning = none ∧
  criterionMv State.reset.ess.criterion = 2950 ∧ warningMv State.reset.ess.warning = 2800 ∧
  State.reset.ess.lidA = { isOpen := false, disagree := 0 } ∧
  State.reset.ess.lidB = { isOpen := false, disagree := 0 } ∧
  State.reset.pwr.supply.lidInterval = 512 ∧
  State.reset.ess.lowTimer = .stopped ∧ State.reset.ess.returnTimer = .stopped ∧
  State.reset.ess.holdSent = false ∧ State.reset.ess.sample = none ∧
  State.reset.ess.result = none ∧
  State.reset.ec =
    { position := none,
      record := { causes := 0, firstTrigger := 0, meshA := 0, meshB := 0, count := 0,
                  completed := false, acknowledged := false } } ∧
  State.reset.pwr.supply = .hold ∧ State.reset.pwr.seconds = 0 ∧
  State.reset.pwr.restartCount = 0 ∧ State.reset.pwr.batteryLost = false ∧
  State.reset.pwr.held = .none

/-- The state after a cold start meets every law below. -/
def Obligations.ResetMeetsEveryLaw : Prop :=
  State.reset.KeyLaw ∧ State.reset.ChannelKeyLaw ∧ State.reset.CountLaw ∧ State.reset.EntryLaw ∧
    State.reset.PresenceLaw ∧ State.reset.BandLaw ∧ State.reset.HighwayLaw

/-! ## Laws that every step keeps -/

/-- R21, R32: outside an erase, no key material unless the monitor is ARMED; during one, the part of
the table that the pass has reached is EMPTY, the monitor is TRIPPED and no transport key stands; and no
waiting claim holds a key value of the Service Unit. -/
def Obligations.KeysStandOnlyWhileArmed : Prop :=
  Kept State.KeyLaw

/-- R54: an OPEN or HALTED channel always holds a transport key. -/
def Obligations.OpenChannelsHoldAKey : Prop :=
  Kept State.ChannelKeyLaw

/-- R50, R55, R56: the admitted count is the number of requests waiting, in service and answered but
not yet sent, and never exceeds 4; the limit is 1 to 4. -/
def Obligations.AdmittedCountsTheRequests : Prop :=
  Kept State.CountLaw

/-- R6, R15, R16: allowance and used count stay in their ranges and a previous generation's number
below the current one's. -/
def Obligations.EntriesStayInRange : Prop :=
  Kept State.EntryLaw

/-- R90, R93, R101, R102, R112, R35: at most three custodians are present, none twice, each ENROLLED;
the window runs exactly while somebody is present; a ceremony exists only while two are. A claim of the
Custodian Interface or the Ceremony Controller stands in the Cipher Core only while a command that
makes one is in progress, with nothing decided of it. -/
def Obligations.PresenceStaysLawful : Prop :=
  Kept State.PresenceLaw

/-- R143, R147: while ARMED each baseline lies within W of the learned value; every last reading lies
in 0 to 8192. -/
def Obligations.BaselinesStayInBand : Prop :=
  Kept State.BandLaw

/-- R69, R70, R71, R78, R80, R82: the frame position stays inside the frame, a reply word is in progress
only in a slot of its channel, a received word from the end of a slot's first bit period, the maps and
the timeout stay in range. -/
def Obligations.HighwayStaysInFrame : Prop :=
  Kept State.HighwayLaw

/-! ## Rules of the whole part -/

/-- R16: an entry's used count never falls, except when the entry becomes EMPTY or a NEW_KEY install
fills it. -/
def Obligations.UsedCountNeverFalls : Prop :=
  ∀ c s t i, s.EntryLaw → exec c s = .next t →
    (s.entry i).used ≤ (t.entry i).used ∨ t.entry i = .empty ∨
      ((s.entry i).isHeld = false ∧ (t.entry i).isHeld = true ∧ (t.entry i).used = 0)

/-- Table 8-3: the monitor state changes in the ways and by the causes listed there and, by a cold start
or the loss of the retention feed, to its initial value. From LEARNING to UNARMED the causes are a
reading, a lid report and MEASURE_NOW, each with ARM_RESULT, hold entry, and a restart. A lid open at the
start, which the table lists with them, ends learning within the step of ARM, so that step leaves the
monitor UNARMED. ACK_TRIP acknowledges a completed erase: in a state with the law of key material no
erase is in progress then (R132, R137, R181). What stands after the feed is lost is the model's choice
(assumption log 15). -/
def Obligations.MonitorMovesAsTable83 : Prop :=
  ∀ c s t, exec c s = .next t →
    t.tm.state = s.tm.state ∨
    (((∃ e a v, c = .coldStart e a v) ∨ c = .retentionFeedLoss) ∧ t.tm.state = .unarmed) ∨
      match s.tm.state, t.tm.state with
      | .unarmed, .learning => (∃ d, c = .commandComplete d) ∧ s.ci.port = .executing .arm
      | .learning, .armed => ∃ x, c = .conversionComplete x
      | .learning, .unarmed =>
        let measures := c = .measureNow ∨
          (∃ write, (c = .commandTaken write ∨ c = .badFrame write) ∧
            readFrame write.bytes = .command .measureNow) ∨
          ((∃ d, c = .commandComplete d) ∧ s.ci.port = .executing .measureNow)
        let opens := (s.ess.lidA.isOpen = false ∧ t.ess.lidA.isOpen = true) ∨
          (s.ess.lidB.isOpen = false ∧ t.ess.lidB.isOpen = true)
        (((∃ x, c = .conversionComplete x) ∨ ((∃ a b, c = .lidSample a b) ∧ opens) ∨ measures) ∧
          t.ci.flags.getLsbD 8 = true) ∨
        ((c = .lowTimerExpiry ∨ c = .eraseEntry) ∧ t.pwr.supply = .hold) ∨
        ((c = .returnTimerExpiry ∨ c = .resetLow ∨ c = .eraseEntry) ∧
          t.pwr.supply ≠ .hold)
      | _, .tripped => t.ec.position = some 0
      | .tripped, .unarmed =>
        (∃ d, c = .commandComplete d) ∧ s.ci.port = .executing .ackTrip ∧
          t.ec.record.acknowledged = true ∧ (s.KeyLaw → s.ec.position = none)
      | .armed, .unarmed =>
        (∃ d, c = .commandComplete d) ∧ s.ci.port = .executing .disarm ∧ s.noKeys
      | _, _ => False

/-- R173, R177, R178: during an erase nothing but the pass itself, a cold start and the loss of the
retention feed, which loses the contents, moves the erase position; of the Tamper Record only the causes
may change, and none is lost. -/
def Obligations.ErasePassStandsFirm : Prop :=
  ∀ c s t i, s.KeyLaw → s.ec.position = some i → exec c s = .next t →
    c = .eraseEntry ∨ (∃ e a v, c = .coldStart e a v) ∨ c = .retentionFeedLoss ∨
      (t.ec = { s.ec with record.causes := t.ec.record.causes } ∧
        s.ec.record.causes &&& t.ec.record.causes = s.ec.record.causes)

/-- R184, R102, R99, R165: CABINET_SECOND_ADVANCE adds 1 to cabinet seconds modulo 2^32 and the
window, the challenge and the battery monitor take the advance in the same step. That a count of 0 whose
expiry is pending stays at 0 is deduced (assumption log 22), and that a battery sample starting while
one settles takes its place is the model's choice (assumption log 32). No other command but a cold
start and the loss of the retention feed changes cabinet seconds; that the loss puts them to 0 in its own
step is the model's choice (assumption log 15). -/
def Obligations.CabinetSecondsAdvance : Prop :=
  (∀ s : State,
    let now := s.pwr.seconds + 1
    let base := { s with
      pwr.seconds := now
      ci.challenge := s.ci.challenge.filter fun c => decide (c.drawnAt + 60 ≠ now)
      ess.sample := if now.toNat % 16 = 0 then some 0 else s.ess.sample }
    (s.ci.window.running = false ∨ s.ci.window.remaining = 0 →
      exec .cabinetSecondAdvance s = .next base) ∧
    (s.ci.window.running = true → 1 < s.ci.window.remaining →
      exec .cabinetSecondAdvance s =
        .next { base with ci.window.remaining := s.ci.window.remaining - 1 }) ∧
    (s.ci.window.running = true → s.ci.window.remaining = 1 → (∃ c, s.ci.port = .executing c) →
      exec .cabinetSecondAdvance s =
        .next { base with ci.window.remaining := 0, ci.expiryPending := true }) ∧
    (s.ci.window.running = true → s.ci.window.remaining = 1 → (¬∃ c, s.ci.port = .executing c) →
      exec .cabinetSecondAdvance s =
        .next { base with
          ci.window.remaining := 0
          ci.window.running := false
          ci.presence := []
          ci.expiryPending := false
          ci.flags := s.ci.flags ||| 0x004
          cec := if 2 ≤ s.ci.presence.length then none else s.cec })) ∧
  ∀ c s t, exec c s = .next t → t.pwr.seconds = s.pwr.seconds ∨ c = .cabinetSecondAdvance ∨
    (((∃ e a v, c = .coldStart e a v) ∨ c = .retentionFeedLoss) ∧ t.pwr.seconds = 0)

/-- R19, R20, R54, R65: no read of the console depends on a key value. Two states that differ only in
their key values answer each of the six reads with the same reply frame. -/
def Obligations.ReadsHideTheKeyValues : Prop :=
  ∀ c s t u,
    (c = .status ∨ c = .readEvents ∨ c = .readTamperRecord ∨ c = .readMesh ∨
      (∃ i, c = .readEntry i) ∨ ∃ n, c = .readChannel n) →
    exec c s = .next t → exec c s.withoutSecrets = .next u → t.portRead = u.portRead

/-- The row of a console command does what the write transaction to the port's address that spells it
and its completion do, with no other step between (assumption log 4). -/
def Obligations.RowIsTakenThenCompleted : Prop :=
  ∀ bytes c draw row s u, readFrame bytes = .command c → c.row? draw = some row →
    (∃ reply, s.ci.port = .ready reply) → exec (.commandTaken ⟨s.ci.address, bytes⟩) s = .next u →
    exec (.commandComplete draw) u = exec row s

/-! ## The line highway -/

/-- R70, R82, R78: HFS in the gap starts a frame at slot 0, bit 31; in OFF and ENABLING it does
nothing; the end of the ENABLING count makes the highway RUNNING in the gap; in the gap an assembly whose
frame count has reached the setting that the last completion compared with is discarded with a BROKEN
refusal, so that a setting replaced since applies from the next completion. That HIGHWAY_RUNNING ends the
ENABLING count wherever it stands, and that HFS and ASSEMBLY_TIMEOUT change nothing where their
condition does not hold, is the model's choice (assumption log 3, 5 and 16). -/
def Obligations.FramePositionFollowsHfs : Prop :=
  (∀ s, s.lhi.highway = .running .gap →
    exec .frameStart s =
      .next { s with lhi.highway := .running (.inFrame 0 31), lhi.rx := none }) ∧
  (∀ s, (s.lhi.highway = .off ∨ ∃ n, s.lhi.highway = .enabling n) →
    exec .frameStart s = .next s ∧ exec .earlyFrameSync s = .next s) ∧
  (∀ s n, s.lhi.highway = .enabling n →
    exec .highwayRunning s = .next { s with lhi.highway := .running .gap, lhi.rx := none }) ∧
  ∀ s c, s.lhi.highway = .running .gap →
    ((s.channel c).assembly = none → exec (.assemblyTimeout c) s = .next s) ∧
    ∀ a, (s.channel c).assembly = some a →
      (a.frames < s.lhi.compared → exec (.assemblyTimeout c) s = .next s) ∧
      (s.lhi.compared ≤ a.frames → exec (.assemblyTimeout c) s = .next (s.setChannel c
        { s.channel c with
          assembly := none
          refusal := some { kind := a.kind, tag := a.tag, status := .broken,
                            superseded := (s.channel c).refusal.isSome } }))

/-- R79, R80, R61: an early frame sync drops the slot's words, breaks every assembly with a BROKEN
refusal, raises FRAME_SLIP and puts the position into the gap. A cut header's reply has not started; a
cut refusal returns to a free register, or else marks the newer one superseded. That the word is cut in
the slot's last bit period too, and that a refusal returns to a register freed meanwhile, is deduced
(assumption log 17 and 21). -/
def Obligations.EarlySyncBreaksTheFrame : Prop :=
  ∀ s slot bit, s.lhi.highway = .running (.inFrame slot bit) →
    let cut : ChannelNo → Channel := fun c =>
      let ch := s.channel c
      match s.lhi.tx with
      | none => ch
      | some tx =>
        if tx.channel = c then
          match tx.source with
          | .header => { ch with sent := none }
          | .refusal f =>
            match ch.refusal with
            | none => { ch with refusal := some f }
            | some newer => { ch with refusal := some { newer with superseded := true } }
          | .body | .fill => ch
        else ch
    let broken : Channel → Channel := fun ch =>
      match ch.assembly with
      | none => ch
      | some a =>
        { ch with
          assembly := none
          refusal := some { kind := a.kind, tag := a.tag, status := .broken,
                            superseded := ch.refusal.isSome } }
    exec .earlyFrameSync s = .next { s with
      channels := Vector.ofFn fun c => broken (cut c)
      lhi.highway := .running .gap
      lhi.tx := none
      lhi.rx := none
      ci.flags := s.ci.flags ||| 0x040 }

/-- R61, R69, R80, R87, Table 5-6: in the first bit period of an assigned slot the word to send is fixed:
the next word of the reply in transmission, else the refusal, else the header of the next reply, else
a fill word. In an unassigned slot none is. As each bit period ends, HRD is sampled at its bit, and HRM in
the first bit period alone, that sample being the mark. That a bit period ends in a step of an empty
queue, and that the engine's levels stand at the pins, is the model's choice (assumption log 1 and 6).
HPM carries the mark of the word in progress through its slot and HPD its bit of the standing bit period;
in an unassigned slot, in the gap and while the highway is not running both are high-impedance. -/
def Obligations.SlotWordIsFixed : Prop :=
  (∀ s : State, s.HighwayLaw →
    (∀ slot bit tx, s.lhi.highway = .running (.inFrame slot bit) → s.lhi.tx = some tx →
      s.drivenMark = some tx.mark ∧ s.drivenBit = some (tx.data.getLsbD bit)) ∧
    ((∀ slot bit, s.lhi.highway ≠ .running (.inFrame slot bit)) ∨
        (∃ slot bit, s.lhi.highway = .running (.inFrame slot bit) ∧
          s.lhi.active.channel slot = none) →
      s.drivenMark = none ∧ s.drivenBit = none)) ∧
  (∀ kind length tag superseded status,
    let w := replyHeader kind length tag superseded status
    w.extractLsb' 30 2 = kind ∧ w.extractLsb' 25 5 = BitVec.ofNat 5 length ∧
      w.extractLsb' 17 8 = tag ∧ w.getLsbD 16 = superseded ∧ w.extractLsb' 6 10 = 0 ∧
      w.extractLsb' 0 6 = BitVec.ofNat 6 status.code) ∧
  (∀ s slot, s.lhi.highway = .running (.inFrame slot 31) → s.lhi.active.channel slot = none →
    exec .slotWordFixed s = .next s) ∧
  (∀ s slot bit, s.HighwayLaw → s.pending = [] → bit < 31 →
    s.lhi.highway = .running (.inFrame slot (bit + 1)) →
    bit < 30 ∨ s.lhi.tx ≠ none ∨ s.lhi.active.channel slot = none →
    ∃ t r, step s = .next t ∧ t.lhi.highway = .running (.inFrame slot bit) ∧ t.lhi.rx = some r ∧
      t.lhi.tx = s.lhi.tx ∧
      (bit = 30 → r.mark = s.pins.hrm.getLsbD 31 ∧
        ∀ n, r.data.getLsbD n = (decide (n = 31) && s.pins.hrd.getLsbD 31)) ∧
      (bit < 30 → ∃ old, s.lhi.rx = some old ∧ r.mark = old.mark ∧
        ∀ n, r.data.getLsbD n =
          (old.data.getLsbD n || (decide (n = bit + 1) && s.pins.hrd.getLsbD n)))) ∧
  ∀ s slot c, s.lhi.highway = .running (.inFrame slot 31) → s.lhi.tx = none →
    s.lhi.active.channel slot = some c →
    let ch := s.channel c
    let run := exec .slotWordFixed s
    let fixed (s : State) (data : Word) (mark : Bool) (source : WordSource) : State :=
      { s with lhi.tx := some { channel := c, data := data, mark := mark, source := source } }
    (∀ r rest n, ch.replies = r :: rest → ch.sent = some n →
      run = .next
        (if n = 0 then fixed s (replyHeader r.kind (r.body.length + 1) r.tag false r.status) true
          .header
         else fixed s (r.body.getD (n - 1) 0) false .body)) ∧
    (∀ f, ch.sent = none ∨ ch.replies = [] → ch.refusal = some f →
      run = .next
        (fixed (s.setChannel c { ch with refusal := none })
          (replyHeader f.kind 1 f.tag f.superseded f.status) true (.refusal f))) ∧
    (∀ r rest, ch.replies = r :: rest → ch.sent = none → ch.refusal = none →
      run = .next
        (fixed (s.setChannel c { ch with sent := some 0 })
          (replyHeader r.kind (r.body.length + 1) r.tag false r.status) true .header)) ∧
    (ch.replies = [] → ch.refusal = none →
      run = .next (fixed s 0 false .fill))

/-- R69, R70, R74, R80, R50: a slot that is not the frame's last ends. The rest of its bits are sampled on
HRD under the levels that the row brings; the received word, with the mark sampled on HRM in the first
bit period, goes to the assembly of its channel and the word sent counts, in the order that `sentFirst`
gives (levels and order are operands, assumption log 6); with its
last word a reply leaves the queue and the admitted count. Every other channel stands. That SLOT_END ends
the slot at whichever bit stands, also where its word was never fixed and so none is sent, is the model's
choice (assumption log 16). -/
def Obligations.SlotEndServesItsChannel : Prop :=
  (∀ (ch : Channel) r rest source, ch.replies = r :: rest → source = .header ∨ source = .body →
    ch.wordSent source =
      if ch.sent.getD 0 + 1 < r.body.length + 1 then { ch with sent := some (ch.sent.getD 0 + 1) }
      else { ch with replies := rest, sent := none, admitted := ch.admitted - 1 }) ∧
  (∀ (ch : Channel) f, ch.wordSent (.refusal f) = ch ∧ ch.wordSent .fill = ch) ∧
  ∀ s slot bit hrd hrm sentFirst, s.HighwayLaw → s.lhi.highway = .running (.inFrame slot bit) →
    slot + 1 < s.lhi.active.length →
    (s.lhi.active.channel slot = none → exec (.slotEnd hrd hrm sentFirst) s = .next { s with
      lhi.highway := .running (.inFrame (slot + 1) 31), lhi.rx := none
      pins.hrd := hrd, pins.hrm := hrm }) ∧
    ∀ c mark w, s.lhi.active.channel slot = some c → s.Receives bit hrd hrm mark w →
      let sent : Channel → Channel := fun ch =>
        match s.lhi.tx with
        | none => ch
        | some tx => ch.wordSent tx.source
      let ch := s.channel c
      exec (.slotEnd hrd hrm sentFirst) s = .next { s.setChannel c
          (if sentFirst then (sent ch).receive mark w else sent (ch.receive mark w)) with
        lhi.highway := .running (.inFrame (slot + 1) 31)
        lhi.tx := none
        lhi.rx := none
        pins.hrd := hrd
        pins.hrm := hrm }

/-- R70, R72, R78: at the end of slot S − 1 the frame completes. The position is the gap, a pending
map becomes the active one, and the frame count of every assembly rises by 1 and breaks it at the
setting. The slot's own word is taken before. That SLOT_END ends the slot, and so the frame, at whichever
bit stands, also where its word was never fixed, is the model's choice (assumption log 16). -/
def Obligations.LastSlotCompletesTheFrame : Prop :=
  ∀ s slot bit hrd hrm mark w sentFirst, s.HighwayLaw →
    s.lhi.highway = .running (.inFrame slot bit) → s.lhi.active.length ≤ slot + 1 →
    s.Receives bit hrd hrm mark w →
    let sent : Channel → Channel := fun ch =>
      match s.lhi.tx with
      | none => ch
      | some tx => ch.wordSent tx.source
    let own : ChannelNo → Channel := fun c =>
      let ch := s.channel c
      if s.lhi.active.channel slot = some c then
        if sentFirst then (sent ch).receive mark w else sent (ch.receive mark w)
      else ch
    let counted : Channel → Channel := fun ch =>
      match ch.assembly with
      | none => ch
      | some a =>
        if a.frames + 1 < s.lhi.timeout then
          { ch with assembly := some { a with frames := a.frames + 1 } }
        else
          { ch with
            assembly := none
            refusal := some { kind := a.kind, tag := a.tag, status := .broken,
                              superseded := ch.refusal.isSome } }
    exec (.slotEnd hrd hrm sentFirst) s = .next { s with
      pins.hrd := hrd
      pins.hrm := hrm
      channels := Vector.ofFn fun c => counted (own c)
      lhi.highway := .running .gap
      lhi.active := s.lhi.pendingMap.getD s.lhi.active
      lhi.pendingMap := none
      lhi.compared := s.lhi.timeout
      lhi.tx := none
      lhi.rx := none }

/-- R75: a header word. -/
def Obligations.HeaderWordStartsAnAssembly : Prop :=
  ∀ (ch : Channel) (w : Word),
    let kind : KindCode := w.extractLsb' 30 2
    let n := (w.extractLsb' 25 5).toNat
    let tag : Byte := w.extractLsb' 17 8
    let freed : Channel :=
      match ch.assembly with
      | none => ch
      | some a =>
        { ch with
          assembly := none
          refusal := some { kind := a.kind, tag := a.tag, status := .broken,
                            superseded := ch.refusal.isSome } }
    (n = 0 ∨ 24 < n → ch.receive true w =
      { freed with refusal := some { kind := kind, tag := tag, status := .badLength,
                                     superseded := freed.refusal.isSome } }) ∧
    (n = 1 → ch.receive true w = freed.deliver kind tag 1 [w]) ∧
    (2 ≤ n → n ≤ 24 → ch.receive true w =
      { freed with assembly := some { kind := kind, tag := tag, length := n, words := [w],
                                      frames := 0 } })

/-- R76: a word with mark 0. -/
def Obligations.BodyWordContinuesTheAssembly : Prop :=
  ∀ (ch : Channel) (w : Word),
    (ch.assembly = none → ch.receive false w = ch) ∧
    ∀ a, ch.assembly = some a →
      (a.words.length + 1 < a.length → ch.receive false w =
        { ch with assembly := some { a with words := a.words ++ [w], frames := 0 } }) ∧
      (a.length ≤ a.words.length + 1 → ch.receive false w =
        { ch with assembly := none }.deliver a.kind a.tag a.length (a.words ++ [w]))

/-- R56, R57, R60, R85, R86: the checks of Table 4-3 in their order, the refusal they place, and the
request that a message which passes them forms. -/
def Obligations.AdmissionChecksInOrder : Prop :=
  ∀ (ch : Channel) (kind : KindCode) (tag : Byte) (length : Nat) (words : List Word),
    let header := words.getD 0 0
    let first := words.getD 1 0
    let entry := if kind = 1 then (header.extractLsb' 10 7).toNat
                 else (first.extractLsb' 24 8).toNat
    let k := (header.extractLsb' 8 2).toNat + 1
    let sequence : BitVec 16 := first.extractLsb' 0 16
    let want := if kind = 1 then 4 else if kind = 2 then 2 else 1
    let badField := (kind ≠ 3 ∧ 95 < entry) ∨ (kind = 1 ∧ 65535 < sequence.toNat + k - 1)
    let refused (status : ReplyStatus) : Channel :=
      { ch with refusal := some { kind := kind, tag := tag, status := status,
                                  superseded := ch.refusal.isSome } }
    let admitted (body : RequestBody) : Channel :=
      { ch with requests := ch.requests ++ [{ tag := tag, body := body }],
                admitted := ch.admitted + 1 }
    (ch.state = .closed → ch.deliver kind tag length words = refused .channelClosed) ∧
    (ch.state = .halted → ch.deliver kind tag length words = refused .channelHalted) ∧
    (ch.state = .opened →
      (kind = 0 → ch.deliver kind tag length words = refused .unknownKind) ∧
      (kind ≠ 0 → length ≠ want → ch.deliver kind tag length words = refused .badLength) ∧
      (kind ≠ 0 → length = want → badField →
        ch.deliver kind tag length words = refused .badField) ∧
      (kind ≠ 0 → length = want → ¬badField → ch.limit ≤ ch.admitted →
        ch.deliver kind tag length words = refused .limit) ∧
      (length = want → ch.admitted < ch.limit →
        (kind = 3 → ch.deliver kind tag length words = admitted .linkStatus) ∧
        ∀ e : EntryIndex, entry = e.val →
          (kind = 2 → ch.deliver kind tag length words = admitted (.probe e)) ∧
          (kind = 1 → sequence.toNat + k - 1 ≤ 65535 → ch.deliver kind tag length words =
            admitted (.derive
              { entry := e, generation := header.extractLsb' 0 8, count := k,
                issuer := first.extractLsb' 16 16, sequence := sequence,
                account := words.getD 2 0 ++ words.getD 3 0 }))))

/-! ## The Service Unit and the Cipher Core -/

/-- R26, R41, R42, R88, Table 5-8: a selection that finds a LINK_STATUS, or a PROBE that passes its
checks, at the head of the next channel answers it in the same step with the words given there. -/
def Obligations.SelectionAnswersAtOnce : Prop :=
  ∀ s c tag rest, s.NextServed c →
    let ch := s.channel c
    let answered (kind : KindCode) (words : List Word) : State :=
      { s.setChannel c { ch with
          requests := rest
          replies := ch.replies ++ [{ kind := kind, tag := tag, status := .ok, body := words }] }
        with su.pointer := c }
    (ch.requests = { tag := tag, body := .linkStatus } :: rest →
      exec .suSelection s = .next (answered 3
        [1#8 ++ BitVec.ofNat 8 ch.limit ++ BitVec.ofNat 8 ch.admitted ++
           BitVec.ofNat 8 (match s.tm.state with
             | .unarmed => 0 | .learning => 1 | .armed => 2 | .tripped => 3),
         BitVec.ofNat 16 s.pwr.restartCount ++ 0#15 ++ BitVec.ofBool s.ec.position.isSome])) ∧
    ∀ i d suspended current previous, ch.requests = { tag := tag, body := .probe i } :: rest →
      s.entry i = .held d suspended current previous → d.rights.getLsbD c.val = true →
      ch.binding = some d.issuer →
      exec .suSelection s = .next (answered 2
        [if suspended then 2 else 1, current.number.setWidth 32,
         (match previous with
          | some g => g.number.setWidth 32
          | none => 0),
         d.issuer.setWidth 32, BitVec.ofNat 32 d.allowance, BitVec.ofNat 32 d.used,
         current.check.setWidth 32])

/-- R28, R29, R30, R31, R107: the first service-time check of Table 3-1 that fails decides the status
of the one-word reply; a failed rights check raises RIGHTS_VIOLATION and reaches the violation latch.
Nothing is charged. -/
def Obligations.SelectionRefusesByTheFirstCheck : Prop :=
  ∀ s c r rest, s.NextServed c → (s.channel c).requests = r :: rest →
    let ch := s.channel c
    let refused (kind : KindCode) (status : ReplyStatus) : State :=
      { s.setChannel c { ch with
          requests := rest
          replies := ch.replies ++ [{ kind := kind, tag := r.tag, status := status, body := [] }] }
        with su.pointer := c }
    let violating (i : EntryIndex) (t : State) : State :=
      { t with
        ci.flags := s.ci.flags ||| 0x008
        ci.violations.pair := some (s.ci.violations.pair.getD (c, i))
        ci.violations.count := min (s.ci.violations.count + 1) 255 }
    (∀ i, r.body = .probe i →
      ((s.entry i).rights.getLsbD c.val = false →
        exec .suSelection s = .next (violating i (refused 2 .notPermitted))) ∧
      ((s.entry i).rights.getLsbD c.val = true →
        ∀ d, (s.entry i).data? = some d →
          (ch.binding ≠ some d.issuer →
            exec .suSelection s = .next (refused 2 .wrongIssuer)) ∧
          (ch.binding = some d.issuer → (s.entry i).isHeld = false →
            exec .suSelection s = .next (refused 2 .noEntry)))) ∧
    ∀ b, r.body = .derive b →
      ((s.entry b.entry).rights.getLsbD c.val = false →
        exec .suSelection s = .next (violating b.entry (refused 1 .notPermitted))) ∧
      ((s.entry b.entry).rights.getLsbD c.val = true →
        ∀ d, (s.entry b.entry).data? = some d →
          (ch.binding ≠ some d.issuer ∨ b.issuer ≠ d.issuer →
            exec .suSelection s = .next (refused 1 .wrongIssuer)) ∧
          (ch.binding = some d.issuer → b.issuer = d.issuer →
            ((s.entry b.entry).isHeld = false →
              exec .suSelection s = .next (refused 1 .noEntry)) ∧
            (∀ current previous, s.entry b.entry = .held d true current previous →
              exec .suSelection s = .next (refused 1 .suspended)) ∧
            ∀ current previous, s.entry b.entry = .held d false current previous →
              let selects := b.generation = 0 ∨ b.generation = current.number ∨
                ∃ g, previous = some g ∧ b.generation = g.number
              (¬selects → exec .suSelection s = .next (refused 1 .noGeneration)) ∧
              (selects → d.allowance < b.count →
                exec .suSelection s = .next (refused 1 .allowanceShort))))

/-- R6, R15, R16, R18, R26, R32, R35, R37, Table 3-3: a DERIVE that passes every check is charged k,
bound to copies of the selected generation and of the transport key, and its claim is presented: granted
at once, or waiting without the key values. ALLOWANCE_LOW is raised if the charge crosses the
threshold. -/
def Obligations.SelectionBindsTheDerive : Prop :=
  ∀ s c tag b rest d current previous g transport, s.NextServed c →
    let ch := s.channel c
    ch.requests = { tag := tag, body := .derive b } :: rest →
    s.entry b.entry = .held d false current previous → d.rights.getLsbD c.val = true →
    ch.binding = some d.issuer → b.issuer = d.issuer →
    ((b.generation = 0 ∨ b.generation = current.number) ∧ g = current ∨
      b.generation ≠ 0 ∧ b.generation ≠ current.number ∧ previous = some g ∧
        g.number = b.generation) →
    b.count ≤ d.allowance → ch.transport = some transport →
    let blocks : List Block := (List.range b.count).map fun i =>
      b.account ++ (b.sequence + BitVec.ofNat 16 i) ++ b.issuer ++ g.number ++
        BitVec.ofNat 8 b.entry.val ++ 0#16
    let job : Job := .derive g.value transport.value blocks
    let left := d.allowance - b.count
    exec .suSelection s = .next
      { (s.setChannel c { ch with requests := rest }).setEntry b.entry
          (.held { d with allowance := left, used := min (d.used + b.count) 4294967295 } false
            current previous) with
        su := { pointer := c
                inService := some
                  { channel := c, tag := tag, body := b, discard := false
                    bound := { master := g.value, number := g.number, entry := b.entry,
                               transport := transport.value } } }
        cc := match s.cc.current with
              | none => { keyBuffer := [.long g.value, .long transport.value]
                          current := some { job := job, done := 0 }
                          waiting := s.cc.waiting }
              | some _ => { s.cc with waiting := s.cc.waiting ++ [.service] }
        ci.flags := if s.kt.threshold ≠ 0 ∧ s.kt.threshold ≤ d.allowance ∧ left < s.kt.threshold
                    then s.ci.flags ||| 0x010 else s.ci.flags }

/-- R38, R39, R40, R45, R64, R88: the claim of a DERIVE completes. Its reply of 1 + 5k words joins the
channel's reply queue and the served count rises by k; under the discard mark the request only leaves
the admitted count. That the row ends the claim at whatever number of operations is done is the model's
choice (assumption log 16). -/
def Obligations.DeriveClaimIsDelivered : Prop :=
  ∀ s claim r, s.cc.current = some claim → s.su.inService = some r →
    let d (i : Nat) : Block :=
      r.body.account ++ (r.body.sequence + BitVec.ofNat 16 i) ++ r.body.issuer ++ r.bound.number ++
        BitVec.ofNat 8 r.bound.entry.val ++ 0#16
    claim.job = .derive r.bound.master r.bound.transport ((List.range r.body.count).map d) →
    let k (i : Nat) : Block := encrypt256 r.bound.master (d i)
    let w (i : Nat) : Block := encrypt256 r.bound.transport (k i)
    let words : List Word := (List.range r.body.count).flatMap fun i =>
      [(w i).extractLsb' 96 32, (w i).extractLsb' 64 32, (w i).extractLsb' 32 32,
       (w i).extractLsb' 0 32,
       (encrypt128 (k i) 0).extractLsb' 104 24 ++
         (r.body.sequence + BitVec.ofNat 16 i).extractLsb' 0 8]
    let ch := s.channel r.channel
    let ended (ch : Channel) : State :=
      { s.setChannel r.channel ch with su.inService := none, cc := s.cc.release.arbitrate none }
    (r.discard = true → exec .ccClaimComplete s =
      .next (ended { ch with admitted := ch.admitted - 1 })) ∧
    (r.discard = false → exec .ccClaimComplete s =
      .next (ended { ch with
        replies := ch.replies ++ [{ kind := 1, tag := r.tag, status := .ok, body := words }]
        served := min (ch.served + r.body.count) 4294967295 })) ∧
    words.length = 5 * r.body.count

/-- R100, R101, R102: the claim of a RESPOND completes. A match lets the custodian join the tail of
the presence list and clears its failure count; a mismatch raises the count and at 3 locks the
record. That the row ends the claim at whatever number of operations is done is the model's choice
(assumption log 16). -/
def Obligations.RespondClaimDecides : Prop :=
  ∀ s claim n response (c : CustodianNo) key challenge, s.cc.current = some claim →
    claim.job = .respond key challenge → s.ci.port = .executing (.respond n response) →
    n.toNat = c.val + 1 →
    let r := s.custodian c
    (encrypt256 key challenge = response → exec .ccClaimComplete s =
      .next (State.finish .done [] { s.setCustodian c { r with failures := 0 } with
        cc := s.cc.release.arbitrate s.su.inService
        ci.presence := s.ci.presence ++ [c]
        ci.window := if s.ci.presence = [] then
                       { remaining := s.ci.window.length, running := true,
                         length := s.ci.window.length }
                     else s.ci.window })) ∧
    (encrypt256 key challenge ≠ response → exec .ccClaimComplete s =
      .next (State.finish .checkMismatch []
        (if r.failures + 1 < 3 then
          { s.setCustodian c { r with failures := r.failures + 1 } with
            cc := s.cc.release.arbitrate s.su.inService }
         else
          { s.setCustodian c { r with failures := r.failures + 1, state := .locked } with
            cc := s.cc.release.arbitrate s.su.inService
            ci.flags := s.ci.flags ||| 0x200 })))

/-- R117: the claim of an ENTER_COMPONENT completes. A mismatch leaves the context as it was; a match
combines the component and adds the contributor. That the row ends the claim at whatever number of
operations is done is the model's choice (assumption log 16). -/
def Obligations.ComponentClaimDecides : Prop :=
  ∀ s claim n block1 block2 claimed (c : CustodianNo) key x, s.cc.current = some claim →
    claim.job = .component key block1 block2 →
    s.ci.port = .executing (.enterComponent n block1 block2 claimed) → n.toNat = c.val + 1 →
    s.cec = some x →
    let component : Key := decrypt256 key block1 ++ decrypt256 key block2
    let check : CheckValue := (encrypt256 component 0).extractLsb' 104 24
    (check ≠ claimed → exec .ccClaimComplete s =
      .next (State.finish .checkMismatch [] { s with cc := s.cc.release.arbitrate s.su.inService })) ∧
    (check = claimed → exec .ccClaimComplete s =
      .next (State.finish .done [] { s with
        cc := s.cc.release.arbitrate s.su.inService
        cec := some { x with
          combined := x.combined ^^^ component
          contributors := x.contributors ++ [c]
          state := if x.required ≤ x.contributors.length + 1 then .ready else x.state } }))

/-- R7, R8, R54, R120, R121: the claim of a COMMIT completes. The checks of Table 7-3 are made in
order and the first that fails decides; the context ends in every case; with no failure the combined
value is installed at its target. That check 2 passes over a FAULTED target is deduced (assumption
log 29); the check value is the model's cipher's (assumption log 2); that the row ends the claim at
whatever number of operations is done is the model's choice (assumption log 16). -/
def Obligations.CommitClaimDecides : Prop :=
  ∀ s claim expected x, s.cc.current = some claim → claim.job = .commit x.combined →
    s.ci.port = .executing (.commit expected) → s.cec = some x →
    let check : CheckValue := (encrypt256 x.combined 0).extractLsb' 104 24
    let ended : State := { s with cc := s.cc.release.arbitrate s.su.inService, cec := none }
    let refused (status : ConsoleStatus) : Prop :=
      exec .ccClaimComplete s = .next (State.finish status [] ended)
    let repeated : Prop := ∃ i issuer d suspended current previous,
      x.target = .rollover i issuer ∧ s.entry i = .held d suspended current previous ∧
        current.check = check
    let key : Generation := { number := x.generation, value := x.combined, check := check }
    (x.combined = 0 ∨ repeated → refused .badValue) ∧
    (x.combined ≠ 0 → ¬repeated →
      (check ≠ expected → refused .checkMismatch) ∧
      (check = expected → s.tm.state ≠ .armed → refused .notArmed) ∧
      (check = expected → s.tm.state = .armed →
        match x.target with
        | .newKey i issuer label rights =>
          ((s.entry i).isHeld = true → refused .state) ∧
          ((s.entry i).isHeld = false → exec .ccClaimComplete s =
            .next (State.finish .done [] (ended.setEntry i
              (.held { label := label, issuer := issuer, rights := rights, allowance := 0,
                       used := 0, committedAt := s.pwr.seconds } false key none))))
        | .rollover i issuer =>
          ((s.entry i).isHeld = false → refused .state) ∧
          ∀ d suspended current previous, s.entry i = .held d suspended current previous →
            (¬(d.issuer = issuer ∧ current.number < x.generation) → refused .state) ∧
            (d.issuer = issuer → current.number < x.generation → exec .ccClaimComplete s =
              .next (State.finish .done [] (ended.setEntry i
                (.held { d with committedAt := s.pwr.seconds } suspended key (some current)))))
        | .transport c =>
          ((∃ g, (s.channel c).transport = some g ∧ x.generation ≤ g.number) →
            refused .state) ∧
          ((∀ g, (s.channel c).transport = some g → g.number < x.generation) →
            exec .ccClaimComplete s = .next (State.finish .done []
              (ended.setChannel c { s.channel c with transport := some key })))))

/-- R12, R54, R187, R188: a self-check claim completes. An entry whose current key does not match
becomes FAULTED, one whose previous key does not match loses it, a transport key that does not match
is erased and its channel closed; ENTRY_FAULT is raised on any failure. The next position is the first
stored key left in the order of the visits, entries before channels, and its claim is presented to the
idle Cipher Core. With no stored key left the restart ends: RESTARTED is raised, or stands as it stood
where the restart follows a cold start (deduced, assumption log 11); the port READY, the highway
ENABLING, NORMAL, and the Cipher Core released. That the row ends the claim at whatever number of
operations is done is the model's choice (assumption log 16). -/
def Obligations.SelfCheckClaimDecides : Prop :=
  ∀ s claim p cold, s.cc.current = some claim →
    s.pwr.supply = .restarting (.checking p) cold →
    let checkOf (v : Key) : CheckValue := (encrypt256 v 0).extractLsb' 104 24
    let entriesDone : Prop := ∀ i : EntryIndex, p.place < i.val → (s.entry i).isHeld = false
    let visits (q : CheckPosition) (job : Job) (t : State) : Prop :=
      t.pwr = { s.pwr with supply := .restarting (.checking q) cold } ∧ t.ci.port = s.ci.port ∧
        t.lhi = s.lhi ∧
        t.cc = { keyBuffer := job.keys, current := some { job := job, done := 0 }
                 waiting := s.cc.waiting }
    let goesOn (t : State) : Prop :=
      (entriesDone → (∀ c : ChannelNo, p.place < 96 + c.val → (s.channel c).transport = none) →
        t.pwr = { s.pwr with supply := .normal } ∧ t.ci.port = .ready none ∧
          t.lhi.highway = .enabling 0 ∧
          t.cc = s.cc.release.arbitrate s.su.inService ∧
          t.ci.flags.getLsbD 10 = (if cold then s.ci.flags.getLsbD 10 else true)) ∧
      (∀ (i : EntryIndex) d suspended current previous, p.place < i.val →
        s.entry i = .held d suspended current previous →
        (∀ j : EntryIndex, p.place < j.val → j < i → (s.entry j).isHeld = false) →
        visits (.entry i) (.checkEntry current.value (previous.map (·.value))) t) ∧
      ∀ (c : ChannelNo) g, entriesDone → p.place < 96 + c.val → (s.channel c).transport = some g →
        (∀ d : ChannelNo, p.place < 96 + d.val → d < c → (s.channel d).transport = none) →
        visits (.channel c) (.checkTransport g.value) t
    (∀ i d suspended current previous, p = .entry i →
      s.entry i = .held d suspended current previous →
      claim.job = .checkEntry current.value (previous.map (·.value)) →
      let matched := checkOf current.value = current.check
      let previousMatched := ∀ g, previous = some g → checkOf g.value = g.check
      ∃ t, exec .ccClaimComplete s = .next t ∧ goesOn t ∧
        (∀ j, j ≠ i → t.entry j = s.entry j) ∧ t.channels = s.channels ∧
        (matched → previousMatched →
          t.entry i = s.entry i ∧ t.ci.flags.getLsbD 5 = s.ci.flags.getLsbD 5) ∧
        (matched → ¬previousMatched →
          t.entry i = .held d suspended current none ∧ t.ci.flags.getLsbD 5 = true) ∧
        (¬matched → t.entry i = .faulted d current.number current.check ∧
          t.ci.flags.getLsbD 5 = true)) ∧
    ∀ c g, p = .channel c → (s.channel c).transport = some g →
      claim.job = .checkTransport g.value →
      ∃ t, exec .ccClaimComplete s = .next t ∧ goesOn t ∧ t.kt = s.kt ∧
        (∀ e, e ≠ c → t.channel e = s.channel e) ∧
        (checkOf g.value = g.check →
          t.channel c = s.channel c ∧ t.ci.flags.getLsbD 5 = s.ci.flags.getLsbD 5) ∧
        (checkOf g.value ≠ g.check →
          t.channel c = { s.channel c with transport := none, state := .closed } ∧
            t.ci.flags.getLsbD 5 = true)

/-- R32, R35, R36: a claim presented to an idle Cipher Core is granted at once and any other waits, the
Service Unit's without its key values; when the current claim leaves, the key buffer is overwritten, and
a waiting claim of the Custodian Interface or the Ceremony Controller is granted before one of the
Service Unit, whether or not a request is in service, as after the claim of a DERIVE; the Service Unit's
claim is formed at its grant from the record of the request in service. -/
def Obligations.ArbiterPrefersTheCustodians : Prop :=
  ∀ (cc : CipherCore) (job : Job) (record : Option InService),
    let granted (job : Job) (waiting : List WaitingClaim) : CipherCore :=
      { keyBuffer := job.keys, current := some { job := job, done := 0 }, waiting := waiting }
    let custodianSide (job : Job) : Prop := job.claimant = .ci ∨ job.claimant = .cec
    (cc.current = none → cc.present job = granted job cc.waiting) ∧
    (∀ claim, cc.current = some claim → cc.present job =
      { cc with waiting := cc.waiting ++ [if job.claimant = .su then .service else .held job] }) ∧
    (cc.waiting = [] → cc.release.arbitrate record =
      { keyBuffer := [], current := none, waiting := [] }) ∧
    (∀ held rest, cc.waiting = .held held :: rest → custodianSide held ∨ rest = [] →
      cc.release.arbitrate record = granted held rest) ∧
    (∀ held, cc.waiting = [.service, .held held] → custodianSide held →
      cc.release.arbitrate record = granted held [.service]) ∧
    ∀ r : InService, record = some r → cc.waiting = [.service] → cc.release.arbitrate record =
      granted (.derive r.bound.master r.bound.transport ((List.range r.body.count).map fun i =>
        r.body.account ++ (r.body.sequence + BitVec.ofNat 16 i) ++ r.body.issuer ++
          r.bound.number ++ BitVec.ofNat 8 r.bound.entry.val ++ 0#16)) []

/-! ## The custodian port -/

/-- R89, R90, R93, R103: a completion places the reply frame and makes the port READY; a pending expiry
then empties the presence list, stops the window, raises WINDOW_EXPIRED and, if two or more were
present, discards the ceremony context. A read transaction to the port's address finds the frame, or
STARTING, or BUSY; one to another address finds nothing. It returns the frame from its first byte: the
status as Table 6-7 codes it, the length and the body, then 00h (R111). ATTN is driven low exactly while
a flag is both set and enabled, in every port state but OFF (R106). -/
def Obligations.ReplyFrameIsPlaced : Prop :=
  let code (status : ConsoleStatus) : Byte :=
    match status with
    | .done => 0x00 | .busy => 0x01 | .starting => 0x02 | .badFrame => 0x03 | .unknownCommand => 0x04
    | .notPresent => 0x05 | .needTwo => 0x06 | .badValue => 0x07 | .state => 0x08
    | .checkMismatch => 0x09 | .locked => 0x0A | .noChallenge => 0x0B | .randomFault => 0x0C
    | .erasing => 0x0D | .notArmed => 0x0E
  ∀ (s : State) status body,
    let placed : State :=
      { s with ci.port := .ready (some { status := status, body := body }), ci.decided := none }
    (s.ci.expiryPending = false → s.finish status body = placed) ∧
    (s.ci.expiryPending = true → s.finish status body = { placed with
      ci.presence := []
      ci.window.remaining := 0
      ci.window.running := false
      ci.expiryPending := false
      ci.flags := s.ci.flags ||| 0x004
      cec := if 2 ≤ s.ci.presence.length then none else s.cec }) ∧
    (s.finish status body).portRead = some { status := status, body := body } ∧
    s.portReadAt s.ci.address = s.portRead ∧
    (∀ address, address ≠ s.ci.address → s.portReadAt address = none) ∧
    (s.ci.port = .off → s.portRead = none) ∧
    (s.ci.port = .starting → s.portRead = some { status := .starting, body := [] }) ∧
    (∀ c, s.ci.port = .executing c → s.portRead = some { status := .busy, body := [] }) ∧
    (s.ci.port = .ready none → s.portRead = some { status := .done, body := [] }) ∧
    (∀ n, ({ status := status, body := body } : ReplyFrame).read n = (List.range n).map fun i =>
      (code status :: BitVec.ofNat 8 body.length :: body).getD i 0) ∧
    (s.ci.port = .off → s.attnLow = false) ∧
    (s.ci.port ≠ .off → (s.attnLow = true ↔
      ∃ i, i < 11 ∧ s.ci.flags.getLsbD i = true ∧ s.ci.enables.getLsbD i = true))

/-- R89, R90, R91, R113, Tables 6-8 and 7-2: what a write transaction that holds no well-formed command
completes with, check by check, and the command that a well-formed one spells: its code's, with its
parameters in the order they are sent. A port that is not READY takes none, and none that names another
address. -/
def Obligations.FramesAreReadAsTable68 : Prop :=
  (∀ s reply, s.ci.port = .ready reply →
    let write (bytes : List Byte) : Host.Outcome State Fault Refusal :=
      exec (.badFrame ⟨s.ci.address, bytes⟩) s
    write [] = .next s ∧
    (∀ code, write [code] = .next (State.finish .badFrame [] s)) ∧
    ∀ code n p,
      (120 < n.toNat ∨ p.length ≠ n.toNat →
        write (code :: n :: p) = .next (State.finish .badFrame [] s)) ∧
      (n.toNat ≤ 120 → p.length = n.toNat →
        ((∀ row ∈ frameTable, row.1 ≠ code.toNat) →
          write (code :: n :: p) = .next (State.finish .unknownCommand [] s)) ∧
        ∀ least most, (code.toNat, least, most) ∈ frameTable →
          (¬(least ≤ p.length ∧ p.length ≤ most) →
            write (code :: n :: p) = .next (State.finish .badFrame [] s)) ∧
          (least ≤ p.length → p.length ≤ most →
            ∃ c, (code.toNat, c) ∈ spelling p ∧ readFrame (code :: n :: p) = .command c))) ∧
  ∀ s write, (∀ reply, s.ci.port ≠ .ready reply) ∨ write.address ≠ s.ci.address →
    exec (.badFrame write) s = .next s ∧ exec (.commandTaken write) s = .next s

/-- R92, R95, R102, Table 6-8: a well-formed command is checked for the erase and for presence, by the
class that its code has in Table 6-8; a refused one changes nothing but the reply frame; an accepted one
makes the port EXECUTING and, if of class one or two and neither a read nor an ENROL_CUSTODIAN on a
fresh part, restarts a running window. What RESPOND, ENTER_COMPONENT, COMMIT, OPEN_CEREMONY,
MEASURE_NOW and ZEROIZE do besides in that step is stated with each of them. -/
def Obligations.TakeChecksEraseThenPresence : Prop :=
  ∀ s reply (code : Byte) rest c cls, s.ci.port = .ready reply →
    readFrame (code :: rest) = .command c → (code.toNat, cls) ∈ classTable →
    let served := code = 0x01 ∨ code = 0x04 ∨ code = 0x05
    let fresh := code = 0x48 ∧
      (s.ci.custodians.toList.filter fun r => decide (r.state = .enrolled)).length < 2
    let read := code = 0x0C ∨ code = 0x0D ∨ code = 0x0E
    let actsAtOnce := code = 0x03 ∨ code = 0x0A ∨ code = 0x0B ∨ code = 0x10 ∨ code = 0x11 ∨
      code = 0x12
    let take := exec (.commandTaken ⟨s.ci.address, code :: rest⟩) s
    let refused (status : ConsoleStatus) : Prop := take = .next (State.finish status [] s)
    (s.ec.position ≠ none → ¬served → refused .erasing) ∧
    (s.ec.position = none ∨ served →
      (¬fresh →
        (cls ≠ .none → s.ci.presence = [] → refused .notPresent) ∧
        (cls = .two → s.ci.presence.length = 1 → refused .needTwo)) ∧
      (fresh ∨ cls = .none ∨ (cls = .one ∧ 1 ≤ s.ci.presence.length) ∨
          2 ≤ s.ci.presence.length →
        ¬actsAtOnce →
          (cls = .none ∨ read ∨ fresh → take = .next { s with ci.port := .executing c }) ∧
          (cls ≠ .none → ¬read → ¬fresh →
            take = .next { s.windowRestarted with ci.port := .executing c })))

/-- R19, R65, R107, R109, R111, R155, R180, Tables 5-7, 6-5 and 6-9: the reads answer DONE with their
bodies, byte by byte, and change nothing, except that READ_EVENTS clears the flags and empties the
violation latch. STATUS, READ_EVENTS and READ_TAMPER_RECORD are served whenever the port is READY; the
other three with a custodian present and no erase in progress. That the row of a read takes and completes
in one step, where R93 completes it in a step of its own, is the model's choice (assumption log 4). -/
def Obligations.ReadsAnswerWithTheirBodies : Prop :=
  let number (n k : Nat) : List Byte :=
    (List.range n).map fun i => BitVec.ofNat 8 (k / 256 ^ (n - 1 - i))
  let bit (b : Bool) (place : Nat) : Nat := if b then 2 ^ place else 0
  let generation (g : Option (Byte × CheckValue)) : List Byte :=
    match g with
    | none => [0, 0, 0, 0]
    | some (n, check) => n :: number 3 check.toNat
  let refusalCode (status : ReplyStatus) : Byte :=
    match status with
    | .ok => 0 | .broken => 1 | .badLength => 2 | .unknownKind => 3 | .badField => 4 | .limit => 5
    | .channelClosed => 6 | .channelHalted => 7 | .notPermitted => 8 | .wrongIssuer => 9
    | .noEntry => 10 | .suspended => 11 | .noGeneration => 12 | .allowanceShort => 13
    | .zeroized => 14
  let statusBytes (s : State) : List Byte :=
    [match s.tm.state with | .unarmed => 0 | .learning => 1 | .armed => 2 | .tripped => 3,
     if s.ec.position = none then 0 else 1,
     BitVec.ofNat 8 (bit s.ess.lidA.isOpen 0 + bit s.ess.lidB.isOpen 1),
     BitVec.ofNat 8 s.ci.presence.length] ++
    ((List.range 3).map fun i =>
      match s.ci.presence[i]? with | none => 0 | some c => BitVec.ofNat 8 (c.val + 1)) ++
    number 2 s.ci.window.remaining ++ number 2 s.ci.window.length ++
    [match s.ci.challenge with
     | none => 0
     | some x => BitVec.ofNat 8 (x.drawnAt + 60 - s.pwr.seconds).toNat,
     match s.cec with
     | none => 0
     | some x => BitVec.ofNat 8 (16 * (match x.target with
         | .newKey .. => 1 | .rollover .. => 2 | .transport _ => 3) +
         match x.state with | .collecting => 1 | .ready => 2)] ++
    ((List.finRange 8).map fun c => BitVec.ofNat 8 (16 * (match (s.custodian c).state with
      | .vacant => 0 | .enrolled => 1 | .locked => 2) + (s.custodian c).failures)) ++
    number 2 s.ci.flags.toNat ++ number 2 s.ci.enables.toNat ++ number 2 s.pwr.restartCount ++
    number 4 s.pwr.seconds.toNat ++
    [match s.ci.random.test with | .noTest => 0 | .passed => 1 | .failed => 2] ++
    (List.finRange 8).flatMap fun c => number 3 (match (s.custodian c).state with
      | .vacant => 0 | .enrolled | .locked => (s.custodian c).check.toNat)
  let entryBytes (e : Entry) : List Byte :=
    let fields (code : Byte) (d : EntryMeta) (current previous : Option (Byte × CheckValue)) :=
      [code, BitVec.ofNat 8 d.label.length] ++ ((List.range 16).map fun i => d.label.getD i 0) ++
        number 2 d.issuer.toNat ++ [d.rights] ++ generation current ++ generation previous ++
        number 3 d.allowance ++ number 4 d.used ++ number 4 d.committedAt.toNat
    match e with
    | .empty => List.replicate 40 0
    | .held d suspended current previous =>
      fields (if suspended then 2 else 1) d (some (current.number, current.check))
        (previous.map fun g => (g.number, g.check))
    | .faulted d n check => fields 3 d (some (n, check)) none
  let channelBytes (s : State) (c : ChannelNo) : List Byte :=
    let ch := s.channel c
    let state : Byte := match ch.state with | .closed => 0 | .opened => 1 | .halted => 2
    [state] ++ generation (ch.transport.map fun g => (g.number, g.check)) ++
      number 2 ((ch.binding.map BitVec.toNat).getD 0) ++ number 1 ch.limit ++ number 4 ch.served ++
      number 1 ch.admitted ++ number 1 ch.requests.length ++ number 1 ch.replies.length ++
      [if ∃ r ∈ s.su.inService, r.channel = c then 1 else 0] ++
      (match ch.refusal with
       | none => [0, 0]
       | some f => [BitVec.ofNat 8 (1 + bit f.superseded 1), refusalCode f.status])
  let meshBytes (r : MeshRecord) : List Byte :=
    number 2 r.lastM ++ [BitVec.ofNat 8 (bit r.lastValid 0)] ++ number 2 r.baseline ++
      number 2 r.learned ++ number 1 r.strikes
  let answers (i : Instr) (s : State) (size : Nat) (body : List Byte) (left : State) : Prop :=
    exec i s = .next (State.finish .done body left) ∧ body.length = size
  (∀ s reply, s.ci.port = .ready reply →
    answers .status s 56 (statusBytes s) s ∧
    answers .readEvents s 6
      (number 2 s.ci.flags.toNat ++
       (match s.ci.violations.pair with
        | none => [0, 0, 0]
        | some (c, e) => [1, BitVec.ofNat 8 c.val, BitVec.ofNat 8 e.val]) ++
       number 1 s.ci.violations.count)
      { s with ci.flags := 0, ci.violations := { pair := none, count := 0 } } ∧
    answers .readTamperRecord s 12
      (let r := s.ec.record
       number 1 r.causes.toNat ++ number 4 r.firstTrigger.toNat ++ number 2 r.meshA ++
         number 2 r.meshB ++ number 2 r.count ++
         [BitVec.ofNat 8 (bit r.completed 0 + bit r.acknowledged 1)]) s) ∧
  ∀ s, s.TakesWith 1 →
    answers .readMesh s 16 (meshBytes s.tm.meshA ++ meshBytes s.tm.meshB) s ∧
    (∀ b, 95 < b.toNat → exec (.readEntry b) s = .next (State.finish .badValue [] s)) ∧
    (∀ b (i : EntryIndex), b.toNat = i.val →
      answers (.readEntry b) s 40 (entryBytes (s.entry i)) s) ∧
    (∀ b, 7 < b.toNat → exec (.readChannel b) s = .next (State.finish .badValue [] s)) ∧
    ∀ b (c : ChannelNo), b.toNat = c.val → answers (.readChannel b) s 18 (channelBytes s c) s

/-- R98: a draw that equals the last passed draw or holds six equal bytes in a row fails with
RANDOM_FAULT and discards the challenge; any other becomes the outstanding challenge and is the body
of the DONE reply. STATUS then reports the result of the test. That the row takes and completes in one
step, where R93 completes it in a step of its own, is the model's choice (assumption log 4). -/
def Obligations.ChallengeIsDrawn : Prop :=
  ∀ s reply (draw : Block), s.ci.port = .ready reply → s.ec.position = none →
    let byte (i : Nat) : Byte := draw.extractLsb' (8 * (15 - i)) 8
    let fails := s.ci.random.lastPassed = some draw ∨
      ∃ i, i ≤ 10 ∧ ∀ j, j < 6 → byte (i + j) = byte i
    (fails → exec (.challenge draw) s = .next (State.finish .randomFault []
      { s with ci.challenge := none, ci.random.test := .failed })) ∧
    (¬fails → exec (.challenge draw) s = .next (State.finish .done ((List.range 16).map byte)
      { s with
        ci.challenge := some { value := draw, drawnAt := s.pwr.seconds }
        ci.random := { lastPassed := some draw, test := .passed } })) ∧
    ∃ t, exec (.challenge draw) s = .next t ∧
      (fails → t.statusBody.getD 31 0 = 2) ∧ (¬fails → t.statusBody.getD 31 0 = 1)

/-- R93, R100, R116, R117, R119, R35: RESPOND, ENTER_COMPONENT and COMMIT make their checks in order and
then present their claim; RESPOND consumes the challenge in the same step. One that its checks refuse
makes no claim: taken by a write transaction it stays in progress, and its completion is a step of its
own, COMMAND_COMPLETE; its own row does both (assumption log 4). -/
def Obligations.ClaimCommandsCheckFirst : Prop :=
  let refusedWith (c : Command) (row : Instr) (status : ConsoleStatus) (base s : State) : Prop :=
    exec row s = .next (State.finish status [] base) ∧
      ∀ bytes, readFrame bytes = .command c → exec (.commandTaken ⟨s.ci.address, bytes⟩) s =
        .next { base with ci.port := .executing c, ci.decided := some status }
  (∀ s c draw,
    (∃ n response, c = .respond n response) ∨
      (∃ n block1 block2 check, c = .enterComponent n block1 block2 check) ∨
      (∃ expected, c = .commit expected) →
    s.ci.port = .executing c →
    (s.ci.decided = none → exec (.commandComplete draw) s = .next s) ∧
    ∀ status, s.ci.decided = some status →
      exec (.commandComplete draw) s = .next (State.finish status [] s)) ∧
  (∀ s reply n response, s.ci.port = .ready reply → s.ec.position = none →
    let refused (status : ConsoleStatus) : Prop :=
      refusedWith (.respond n response) (.respond n response) status s s
    (n.toNat = 0 ∨ 8 < n.toNat → refused .badValue) ∧
    ∀ c : CustodianNo, n.toNat = c.val + 1 →
      (s.ci.challenge = none → refused .noChallenge) ∧
      ∀ x, s.ci.challenge = some x →
        ((s.custodian c).state = .vacant → refused .badValue) ∧
        ((s.custodian c).state = .locked → refused .locked) ∧
        ((s.custodian c).state = .enrolled →
          (c ∈ s.ci.presence ∨ 3 ≤ s.ci.presence.length → refused .state) ∧
          (c ∉ s.ci.presence → s.ci.presence.length < 3 → exec (.respond n response) s =
            .next { s with
              ci.port := .executing (.respond n response)
              ci.decided := none
              ci.challenge := none
              cc := s.cc.present (.respond (s.custodian c).key x.value) }))) ∧
  ∀ s : State, s.TakesWith 2 →
    (∀ n block1 block2 check,
      let refused (status : ConsoleStatus) : Prop :=
        refusedWith (.enterComponent n block1 block2 check) (.enterComponent n block1 block2 check)
          status s.windowRestarted s
      (n.toNat = 0 ∨ 8 < n.toNat → refused .badValue) ∧
      ∀ c : CustodianNo, n.toNat = c.val + 1 →
        (s.cec = none → refused .state) ∧
        ∀ x, s.cec = some x →
          (x.state = .ready ∨ c ∉ s.ci.presence ∨ c ∈ x.contributors → refused .state) ∧
          (x.state = .collecting → c ∈ s.ci.presence → c ∉ x.contributors →
            exec (.enterComponent n block1 block2 check) s = .next { s.windowRestarted with
              ci.port := .executing (.enterComponent n block1 block2 check)
              ci.decided := none
              cc := s.cc.present (.component (s.custodian c).key block1 block2) })) ∧
    ∀ expected,
      (s.cec = none ∨ (∃ x, s.cec = some x ∧ x.state = .collecting) →
        refusedWith (.commit expected) (.commit expected) .state s.windowRestarted s) ∧
      ∀ x, s.cec = some x → x.state = .ready →
        exec (.commit expected) s = .next { s.windowRestarted with
          ci.port := .executing (.commit expected)
          ci.decided := none
          cc := s.cc.present (.commit x.combined) }

/-- R104, R108, R122: LOGOFF removes its custodian, stops the window when the list becomes empty and
discards the ceremony context on a drop below two; SET_EVENT_ENABLES replaces all eleven enables, ATTN
following, or refuses a set bit above bit 10; CANCEL_CEREMONY discards the context. That the three rows
take and complete in one step, where R93 completes them in a step of their own, is the model's choice
(assumption log 4). -/
def Obligations.ClassOneCommandsTakeEffect : Prop :=
  ∀ s : State, s.TakesWith 1 →
    (∀ n, n.toNat = 0 ∨ 8 < n.toNat →
      exec (.logoff n) s = .next (State.finish .badValue [] s.windowRestarted)) ∧
    (∀ n (c : CustodianNo), n.toNat = c.val + 1 →
      (c ∉ s.ci.presence →
        exec (.logoff n) s = .next (State.finish .state [] s.windowRestarted)) ∧
      (s.ci.presence = [c] → exec (.logoff n) s = .next (State.finish .done []
        { s with ci.presence := [], ci.window.remaining := 0, ci.window.running := false })) ∧
      (c ∈ s.ci.presence → 2 ≤ s.ci.presence.length → exec (.logoff n) s =
        .next (State.finish .done [] { s.windowRestarted with
          ci.presence := s.ci.presence.erase c
          cec := if s.ci.presence.length = 2 then none else s.cec }))) ∧
    (∀ enables : BitVec 16,
      (enables.extractLsb' 11 5 ≠ 0 → exec (.setEventEnables enables) s =
        .next (State.finish .badValue [] s.windowRestarted)) ∧
      (enables.extractLsb' 11 5 = 0 → exec (.setEventEnables enables) s =
        .next (State.finish .done []
          { s.windowRestarted with ci.enables := enables.extractLsb' 0 11 })) ∧
      ∃ t, exec (.setEventEnables enables) s = .next t ∧
        (t.attnLow = true ↔ ∃ i, i < 11 ∧ t.ci.flags.getLsbD i = true ∧
          t.ci.enables.getLsbD i = true)) ∧
    (s.cec = none → exec .cancelCeremony s = .next (State.finish .state [] s.windowRestarted)) ∧
    ∀ x, s.cec = some x → exec .cancelCeremony s =
      .next (State.finish .done [] { s.windowRestarted with cec := none })

/-- R154, R142, R150: MEASURE_NOW discards the conversion in progress, whose mesh loses its last-valid
flag, and starts one on the same mesh at the configured N; a LEARNING monitor becomes UNARMED with
ARM_RESULT. It is refused ERASING during an erase, and NOT_PRESENT with nobody present. -/
def Obligations.MeasureNowRestartsTheConversion : Prop :=
  (∀ s reply, s.ci.port = .ready reply → s.ec.position ≠ none →
    exec .measureNow s = .next (State.finish .erasing [] s)) ∧
  (∀ s reply, s.ci.port = .ready reply → s.ec.position = none → s.ci.presence = [] →
    exec .measureNow s = .next (State.finish .notPresent [] s)) ∧
  ∀ s : State, s.TakesWith 1 → ∀ cv, s.tm.conversion = some cv →
    let fresh (m : Mesh) : Option Conversion :=
      some { mesh := m, runUpCount := s.tm.runUpCount, phase := .runUp, count := 0 }
    let measured : State :=
      match cv.mesh with
      | .a => { s.windowRestarted with
          tm.meshA.lastValid := false, tm.conversion := fresh .a, tm.nextMesh := .b }
      | .b => { s.windowRestarted with
          tm.meshB.lastValid := false, tm.conversion := fresh .b, tm.nextMesh := .a }
    (s.tm.state ≠ .learning →
      exec .measureNow s = .next (State.finish .done [] measured)) ∧
    (s.tm.state = .learning → exec .measureNow s = .next (State.finish .done [] { measured with
      tm.state := .unarmed, tm.learning := none, ci.flags := s.ci.flags ||| 0x100 }))

/-- R93, R114, R115, R112: the parameter checks of OPEN_CEREMONY and then its three state checks; with
none failing a COLLECTING context is created. Taken by a write transaction it makes the checks in that
step and stays in progress with its outcome decided; its completion is a step of its own,
COMMAND_COMPLETE, and an erase start that comes before it discards the context and completes the command
with ERASING. Its own row does both steps (assumption log 4). -/
def Obligations.OpenCeremonyChecksInOrder : Prop :=
  (∀ s c draw,
    (∃ kind target generation components issuer rights labelLength label,
      c = .openCeremony kind target generation components issuer rights labelLength label) →
    s.ci.port = .executing c →
    (∀ status, s.ci.decided = some status →
      exec (.commandComplete draw) s = .next (State.finish status [] s)) ∧
    (s.ess.emzHigh = true → s.ec.position = none → ∃ t, exec .emzFallingEdge s = .next t ∧
      t.ec.position = some 0 ∧ t.cec = none ∧ t.ci.decided = none ∧
      t.ci.port = .ready (some { status := .erasing, body := [] }))) ∧
  ∀ s kind target generation components issuer rights labelLength label, s.TakesWith 2 →
    label.length ≤ 16 →
    let command : Command :=
      .openCeremony kind target generation components issuer rights labelLength label
    let decides (status : ConsoleStatus) (base : State) : Prop :=
      exec (.openCeremony kind target generation components issuer rights labelLength label) s =
        .next (State.finish status [] base) ∧
      ∀ bytes, readFrame bytes = .command command →
        exec (.commandTaken ⟨s.ci.address, bytes⟩) s =
          .next { base with ci.port := .executing command, ci.decided := some status }
    let refused (status : ConsoleStatus) : Prop := decides status s.windowRestarted
    let opened (x : CeremonyTarget) : Prop :=
      decides .done { s.windowRestarted with
        cec := some { target := x, generation := generation, required := components.toNat,
                      contributors := [], combined := 0, state := .collecting } }
    let badIssuer := issuer = 0 ∨ issuer = 65535
    let bad := ¬(kind = 1 ∨ kind = 2 ∨ kind = 3) ∨ labelLength.toNat ≠ label.length ∨
      (kind ≠ 3 ∧ 95 < target.toNat) ∨ (kind = 3 ∧ 7 < target.toNat) ∨ generation = 0 ∨
      ¬(components = 2 ∨ components = 3) ∨
      (kind = 1 ∧ (badIssuer ∨ ∃ c ∈ label, c.toNat < 0x20 ∨ 0x7E < c.toNat)) ∨
      (kind = 2 ∧ (badIssuer ∨ label ≠ [])) ∨ (kind = 3 ∧ label ≠ [])
    (bad → refused .badValue) ∧
    (¬bad → s.cec ≠ none → refused .state) ∧
    (¬bad → s.cec = none → s.tm.state ≠ .armed → refused .notArmed) ∧
    (¬bad → s.cec = none → s.tm.state = .armed →
      (kind = 1 → ∀ i : EntryIndex, target.toNat = i.val →
        ((s.entry i).isHeld = true → refused .state) ∧
        ((s.entry i).isHeld = false → opened (.newKey i issuer label rights))) ∧
      (kind = 2 → ∀ i : EntryIndex, target.toNat = i.val →
        ((s.entry i).isHeld = false → refused .state) ∧
        ∀ d suspended current previous, s.entry i = .held d suspended current previous →
          (¬(d.issuer = issuer ∧ current.number < generation) → refused .state) ∧
          (d.issuer = issuer → current.number < generation → opened (.rollover i issuer))) ∧
      (kind = 3 → ∀ c : ChannelNo, target.toNat = c.val →
        ((∃ g, (s.channel c).transport = some g ∧ generation ≤ g.number) → refused .state) ∧
        ((∀ g, (s.channel c).transport = some g → g.number < generation) →
          opened (.transport c))))

/-- R171, Table 10-2, R46, R66, R81, R137, R160, R172, R177, R179: an accepted ZEROIZE, and a falling
edge on EMZ with no erase in progress, start an erase: one action with all its parts. A falling edge
during an erase adds its cause and nothing else. A rising edge sets the last level. Which bits of a
reply word on the line are zeroed, and that a header stands, is deduced (assumption log 24 and 25); an
edge row on a level that does not change is the model's choice (assumption log 3). -/
def Obligations.ZeroizeAndEdgesStartAnErase : Prop :=
  let zeroized (kind : KindCode) (tag : Byte) : Reply :=
    { kind := kind, tag := tag, status := .zeroized, body := [] }
  let closedAt (s : State) (c : ChannelNo) : Channel :=
    let ch := s.channel c
    let old := match ch.sent, ch.replies with
      | some n, r :: rest =>
        { r with body := r.body.mapIdx fun i w => if i + 1 < n then w else 0 } ::
          rest.map fun r => zeroized r.kind r.tag
      | _, replies => replies.map fun r => zeroized r.kind r.tag
    let served := match s.su.inService with
      | some r => if r.channel = c ∧ r.discard = false then [zeroized 1 r.tag] else []
      | none => []
    let dropped := match s.su.inService with
      | some r => if r.channel = c ∧ r.discard = true then 1 else 0
      | none => 0
    { ch with
      transport := none
      state := .closed
      requests := []
      replies := old ++ served ++ ch.requests.map fun r =>
        zeroized (match r.body with | .derive _ => 1 | .probe _ => 2 | .linkStatus => 3) r.tag
      admitted := ch.admitted - dropped }
  let started (cause : BitVec 6) (port : Port) (s : State) : State :=
    { s with
      ec := { position := some 0
              record := { causes := cause, firstTrigger := s.pwr.seconds
                          meshA := s.tm.meshA.lastM, meshB := s.tm.meshB.lastM
                          count := min (s.ec.record.count + 1) 65535
                          completed := false, acknowledged := false } }
      cc := { keyBuffer := [], current := none, waiting := [] }
      su.inService := none
      channels := Vector.ofFn (closedAt s)
      lhi.tx := match s.lhi.highway, s.lhi.tx with
        | .running (.inFrame _ bit), some tx =>
          if tx.source = .body then
            some { tx with data := (tx.data >>> (bit + 1)) <<< (bit + 1) } else some tx
        | _, tx => tx
      tm.state := .tripped
      tm.learning := none
      cec := none
      ci.port := port
      ci.decided := none
      ci.presence := []
      ci.window.remaining := 0
      ci.window.running := false
      ci.expiryPending := false
      ci.challenge := none
      ci.flags := if s.tm.state = .learning then s.ci.flags ||| 0x100 else s.ci.flags
      pwr.supply := match s.pwr.supply with
        | .restarting (.checking _) cold => .restarting .checked cold
        | supply => supply }
  let low (s : State) : State := { s with ess.emzHigh := false, pins.emzHigh := false }
  (∀ s : State, s.TakesWith 1 →
    exec .zeroize s = .next (started 0b100000 (.ready (some { status := .done, body := [] })) s)) ∧
  (∀ s : State, s.ess.emzHigh = true → s.ec.position = none →
    (∀ c, s.ci.port = .executing c → c ≠ .zeroize → exec .emzFallingEdge s =
      .next (low (started 0b001000 (.ready (some { status := .erasing, body := [] })) s))) ∧
    ((∀ c, s.ci.port ≠ .executing c) →
      exec .emzFallingEdge s = .next (low (started 0b001000 s.ci.port s)))) ∧
  (∀ s : State, s.ess.emzHigh = true → s.ec.position ≠ none → exec .emzFallingEdge s =
    .next (low { s with ec.record.causes := s.ec.record.causes ||| 0b001000 })) ∧
  (∀ s : State, s.ess.emzHigh = false → exec .emzFallingEdge s = .next s) ∧
  ∀ s : State, exec .emzRisingEdge s =
    .next { s with ess.emzHigh := true, pins.emzHigh := true }

/-! ## Commands completed by COMMAND_COMPLETE -/

/-- R9, R10, R11, R127, R6: the four commands that change an entry's state complete: the change, or
STATE where the entry's state gives it no effect, or BAD_VALUE above index 95. A dropped number
selects no generation afterwards. -/
def Obligations.EntryStateCommandsComplete : Prop :=
  ∀ (s : State) draw b command,
    command = .suspendEntry b ∨ command = .resumeEntry b ∨ command = .dropPrevious b ∨
      command = .retireEntry b →
    s.ci.port = .executing command →
    let refused (status : ConsoleStatus) : Prop :=
      exec (.commandComplete draw) s = .next (State.finish status [] s)
    (95 < b.toNat → refused .badValue) ∧
    ∀ i : EntryIndex, b.toNat = i.val →
      let becomes (e : Entry) : Prop :=
        exec (.commandComplete draw) s = .next (State.finish .done [] (s.setEntry i e))
      match s.entry i with
      | .empty => refused .state
      | .faulted _ _ _ => if command = .retireEntry b then becomes .empty else refused .state
      | .held d suspended current previous =>
        (command = .suspendEntry b →
          if suspended then refused .state else becomes (.held d true current previous)) ∧
        (command = .resumeEntry b →
          if suspended then becomes (.held d false current previous) else refused .state) ∧
        (command = .dropPrevious b →
          match previous with
          | none => refused .state
          | some g => becomes (.held d suspended current none) ∧
            (g.number ≠ 0 → g.number ≠ current.number →
              (Entry.held d suspended current none).select g.number = none)) ∧
        (command = .retireEntry b → becomes .empty)

/-- R13, R14, R3, R4, R17, R125, R126: the allowance and policy commands complete. A grant is clamped
at 16,777,215; a revocation leaves 0, so that no DERIVE passes the allowance check; the threshold is
replaced whatever the entries. -/
def Obligations.PolicyCommandsComplete : Prop :=
  ∀ (s : State) draw,
    let run := exec (.commandComplete draw) s
    let refused (status : ConsoleStatus) : Prop := run = .next (State.finish status [] s)
    let becomes (i : EntryIndex) (e : Entry) : Prop :=
      run = .next (State.finish .done [] (s.setEntry i e))
    let badLabel (label : List Byte) : Prop :=
      16 < label.length ∨ ∃ c ∈ label, c.toNat < 0x20 ∨ 0x7E < c.toNat
    (∀ b amount, s.ci.port = .executing (.grantAllowance b amount) →
      (95 < b.toNat ∨ amount = 0 → refused .badValue) ∧
      ∀ i : EntryIndex, b.toNat = i.val → amount ≠ 0 →
        ((s.entry i).isHeld = false → refused .state) ∧
        ∀ d suspended current previous, s.entry i = .held d suspended current previous →
          becomes i (.held
            { d with allowance := if d.allowance + amount.toNat ≤ 16777215
                                  then d.allowance + amount.toNat else 16777215 }
            suspended current previous)) ∧
    (∀ b, s.ci.port = .executing (.revokeAllowance b) →
      (95 < b.toNat → refused .badValue) ∧
      ∀ i : EntryIndex, b.toNat = i.val →
        (s.entry i = .empty → refused .state) ∧
        ∀ d, (s.entry i).data? = some d →
          becomes i ((s.entry i).setData { d with allowance := 0 }) ∧
          ∀ body : DeriveBody, 1 ≤ body.count →
            ∃ status, deriveCheck body ((s.entry i).setData { d with allowance := 0 }) =
              .inl status) ∧
    (∀ b rights, s.ci.port = .executing (.setRights b rights) →
      (95 < b.toNat → refused .badValue) ∧
      ∀ i : EntryIndex, b.toNat = i.val →
        (s.entry i = .empty → refused .state) ∧
        ∀ d, (s.entry i).data? = some d →
          becomes i ((s.entry i).setData { d with rights := rights })) ∧
    (∀ b label, s.ci.port = .executing (.setLabel b label) →
      (95 < b.toNat ∨ badLabel label → refused .badValue) ∧
      ∀ i : EntryIndex, b.toNat = i.val → ¬badLabel label →
        (s.entry i = .empty → refused .state) ∧
        ∀ d, (s.entry i).data? = some d →
          becomes i ((s.entry i).setData { d with label := label })) ∧
    ∀ threshold, s.ci.port = .executing (.setAllowanceThreshold threshold) →
      run = .next (State.finish .done [] { s with kt.threshold := threshold.toNat })

/-- R51, R52, R53, R55, R63, R45, R128: the channel commands complete. -/
def Obligations.ChannelCommandsComplete : Prop :=
  ∀ (s : State) draw (b : Byte),
    let run := exec (.commandComplete draw) s
    let refused (status : ConsoleStatus) : Prop := run = .next (State.finish status [] s)
    (7 < b.toNat →
      s.ci.port = .executing (.channelOpen b) ∨ s.ci.port = .executing (.channelHalt b) ∨
        s.ci.port = .executing (.channelResume b) ∨ s.ci.port = .executing (.channelClose b) ∨
        s.ci.port = .executing (.flushChannel b) ∨
        (∃ binding limit, s.ci.port = .executing (.setChannel b binding limit)) →
      refused .badValue) ∧
    ∀ c : ChannelNo, b.toNat = c.val →
      let ch := s.channel c
      let becomes (x : Channel) : Prop :=
        run = .next (State.finish .done [] (s.setChannel c x))
      (s.ci.port = .executing (.channelOpen b) →
        (ch.state = .closed → ch.transport ≠ none →
          becomes { ch with state := .opened, served := 0 }) ∧
        (ch.state ≠ .closed ∨ ch.transport = none → refused .state)) ∧
      (s.ci.port = .executing (.channelHalt b) →
        (ch.state = .opened → becomes { ch with state := .halted }) ∧
        (ch.state ≠ .opened → refused .state)) ∧
      (s.ci.port = .executing (.channelResume b) →
        (ch.state = .halted → becomes { ch with state := .opened }) ∧
        (ch.state ≠ .halted → refused .state)) ∧
      (s.ci.port = .executing (.channelClose b) →
        becomes { ch with
          state := .closed
          requests := []
          replies := ch.replies ++ ch.requests.map fun r =>
            { kind := match r.body with | .derive _ => 1 | .probe _ => 2 | .linkStatus => 3
              tag := r.tag, status := .channelClosed, body := [] } }) ∧
      (∀ binding limit, s.ci.port = .executing (.setChannel b binding limit) →
        (binding = 65535 ∨ limit = 0 ∨ 4 < limit.toNat → refused .badValue) ∧
        (binding ≠ 65535 → limit ≠ 0 → limit.toNat ≤ 4 →
          becomes { ch with binding := if binding = 0 then none else some binding
                            limit := limit.toNat })) ∧
      (s.ci.port = .executing (.flushChannel b) →
        let kept := if ch.sent = none then [] else ch.replies.take 1
        run = .next (State.finish .done [] { s.setChannel c { ch with
            requests := []
            replies := kept
            refusal := none
            assembly := none
            admitted := ch.admitted - ch.requests.length - (ch.replies.length - kept.length) } with
          su.inService := s.su.inService.map fun r =>
            if r.channel = c then { r with discard := true } else r }))

/-- R72, R78, R102, R129, R131, R133, R153, R164: the settings commands complete. SET_MESH is refused
in LEARNING and in ARMED limits both baselines to the new band; SET_SUPPLY judges VDD against the new
criterion at once. -/
def Obligations.SettingCommandsComplete : Prop :=
  ∀ (s : State) draw,
    let run := exec (.commandComplete draw) s
    let refused (status : ConsoleStatus) : Prop := run = .next (State.finish status [] s)
    let becomes (t : State) : Prop := run = .next (State.finish .done [] t)
    (∀ length slots, s.ci.port = .executing (.writeSlotMap length slots) → slots.length = 16 →
      let good (b : Byte) : Prop := b.toNat ≤ 7 ∨ b = 0xFF
      (length.toNat < 2 ∨ 16 < length.toNat ∨ (∃ b ∈ slots, ¬good b) → refused .badValue) ∧
      (2 ≤ length.toNat → length.toNat ≤ 16 → (∀ b ∈ slots, good b) →
        ∃ m : SlotMap, becomes { s with lhi.pendingMap := some m } ∧ m.length = length.toNat ∧
          ∀ i, i < 16 →
            (slots.getD i 0 = 0xFF → m.channel i = none) ∧
            ∀ c : ChannelNo, (slots.getD i 0).toNat = c.val → m.channel i = some c)) ∧
    (∀ frames, s.ci.port = .executing (.setAssemblyTimeout frames) →
      (frames.toNat < 16 ∨ 1024 < frames.toNat → refused .badValue) ∧
      (16 ≤ frames.toNat → frames.toNat ≤ 1024 →
        becomes { s with lhi.timeout := frames.toNat })) ∧
    (∀ length, s.ci.port = .executing (.setWindow length) →
      (length.toNat < 30 ∨ 900 < length.toNat → refused .badValue) ∧
      (30 ≤ length.toNat → length.toNat ≤ 900 →
        becomes { s with ci.window.length := length.toNat })) ∧
    (∀ criterion warning, s.ci.port = .executing (.setSupply criterion warning) →
      (3 < criterion.toNat ∨ 3 < warning.toNat → refused .badValue) ∧
      ∀ c w : Fin 4, criterion.toNat = c.val → warning.toNat = w.val →
        becomes { s with
          ess.criterion := c
          ess.warning := w
          ess.lowTimer := if s.pins.vdd < 3000 - 50 * c.val then
                            match s.ess.lowTimer with
                            | .stopped => .running 0
                            | timer => timer
                          else .stopped }) ∧
    ∀ runUp window strikes drift, s.ci.port = .executing (.setMesh runUp window strikes drift) →
      let bad := 3 < runUp.toNat ∨ window.toNat < 16 ∨ 1024 < window.toNat ∨ strikes = 0 ∨
        4 < strikes.toNat ∨ 1 < drift.toNat
      let limited (r : MeshRecord) : MeshRecord :=
        { r with
          strikes := 0
          baseline := if r.learned + window.toNat < r.baseline then r.learned + window.toNat
                      else if r.baseline + window.toNat < r.learned then r.learned - window.toNat
                      else r.baseline }
      let replaced : State := { s with
        tm.runUpCount := 512 * 2 ^ runUp.toNat
        tm.window := window.toNat
        tm.strikeLimit := strikes.toNat
        tm.drift := drift == 1 }
      (bad → refused .badValue) ∧
      (¬bad → s.tm.state = .learning → refused .state) ∧
      (¬bad → s.tm.state = .armed → becomes { replaced with
        tm.meshA := limited s.tm.meshA
        tm.meshB := limited s.tm.meshB }) ∧
      (¬bad → s.tm.state = .unarmed ∨ s.tm.state = .tripped → becomes replaced)

/-- R130, R132, R149, R150, R181: ARM, DISARM and ACK_TRIP complete. ARM fails at once, with
ARM_RESULT, while a lid is open. -/
def Obligations.MonitorCommandsComplete : Prop :=
  ∀ (s : State) draw,
    let run := exec (.commandComplete draw) s
    let refused : Prop := run = .next (State.finish .state [] s)
    let becomes (t : State) : Prop := run = .next (State.finish .done [] t)
    let noReadings : Tally := { count := 0, sum := 0, least := none, greatest := none }
    (s.ci.port = .executing .arm →
      (s.tm.state ≠ .unarmed → refused) ∧
      (s.tm.state = .unarmed → s.ess.lidA.isOpen = false → s.ess.lidB.isOpen = false →
        becomes { s with
          tm.state := .learning
          tm.learning := some { begunBefore := s.tm.conversion.isSome, a := noReadings,
                                b := noReadings } }) ∧
      (s.tm.state = .unarmed → s.ess.lidA.isOpen = true ∨ s.ess.lidB.isOpen = true →
        becomes { s with
          tm.state := .unarmed, tm.learning := none, ci.flags := s.ci.flags ||| 0x100 })) ∧
    (s.ci.port = .executing .disarm →
      let empty := (∀ i, s.entry i = .empty) ∧ ∀ c, (s.channel c).transport = none
      (s.tm.state = .armed → empty → becomes { s with tm.state := .unarmed }) ∧
      (s.tm.state ≠ .armed ∨ ¬empty → refused)) ∧
    (s.ci.port = .executing .ackTrip →
      (s.tm.state = .tripped → becomes { s with
        ec.record.acknowledged := true, tm.state := .unarmed }) ∧
      (s.tm.state ≠ .tripped → refused))

/-- R95, R96, R97: the commands on a custodian record complete. -/
def Obligations.CustodianCommandsComplete : Prop :=
  ∀ (s : State) draw (n : Byte),
    let run := exec (.commandComplete draw) s
    let refused (status : ConsoleStatus) : Prop := run = .next (State.finish status [] s)
    (n.toNat = 0 ∨ 8 < n.toNat →
      s.ci.port = .executing (.removeCustodian n) ∨ s.ci.port = .executing (.unlockCustodian n) ∨
        (∃ key check, s.ci.port = .executing (.enrolCustodian n key check)) →
      refused .badValue) ∧
    ∀ c : CustodianNo, n.toNat = c.val + 1 →
      let r := s.custodian c
      let becomes (x : Custodian) : Prop :=
        run = .next (State.finish .done [] (s.setCustodian c x))
      (∀ key check, s.ci.port = .executing (.enrolCustodian n key check) →
        (key = 0 → refused .badValue) ∧
        (key ≠ 0 → r.state ≠ .vacant → refused .state) ∧
        (key ≠ 0 → r.state = .vacant →
          becomes { state := .enrolled, key := key, check := check, failures := 0 })) ∧
      (s.ci.port = .executing (.removeCustodian n) →
        (r.state = .vacant ∨ c ∈ s.ci.presence → refused .state) ∧
        (r.state ≠ .vacant → c ∉ s.ci.presence →
          becomes { state := .vacant, key := 0, check := 0, failures := 0 })) ∧
      (s.ci.port = .executing (.unlockCustodian n) →
        (r.state ≠ .locked → refused .state) ∧
        (r.state = .locked → becomes { r with state := .enrolled, failures := 0 }))

/-! ## Expiries, sensing and supply -/

/-- R103, R99: WINDOW_EXPIRY takes effect on a running window that stands at 0, or is held pending
behind a command in progress; CHALLENGE_EXPIRY discards the challenge drawn 60 cabinet seconds before
the standing count. That these rows act on what stands, beside the advance that carries the same
effect, is deduced (assumption log 5). -/
def Obligations.ExpiriesTakeEffect : Prop :=
  (∀ s : State, s.ci.window.running = true → s.ci.window.remaining = 0 →
    ((∃ c, s.ci.port = .executing c) → exec .windowExpiry s =
      .next { s with ci.expiryPending := true }) ∧
    ((¬∃ c, s.ci.port = .executing c) → exec .windowExpiry s = .next { s with
      ci.presence := []
      ci.window.running := false
      ci.expiryPending := false
      ci.flags := s.ci.flags ||| 0x004
      cec := if 2 ≤ s.ci.presence.length then none else s.cec })) ∧
  ∀ (s : State) x, s.ci.challenge = some x →
    (s.pwr.seconds = x.drawnAt + 60 → exec .challengeExpiry s =
      .next { s with ci.challenge := none }) ∧
    (s.pwr.seconds ≠ x.drawnAt + 60 → exec .challengeExpiry s = .next s)

/-- R165, R166, R170: a battery sample latches its result against the two levels. In normal power a
result below the warning level raises BATTERY_WEAK; in hold one below 2.45 V with key material present
is a battery trip. That the row ends the settle time wherever it stands is the model's choice (assumption
log 16). -/
def Obligations.BatteryResultIsJudged : Prop :=
  ∀ (s : State) vbat elapsed, s.ess.sample = some elapsed →
    let weak := decide (vbat < 2900 - 100 * s.ess.warning.val)
    let flat := decide (vbat < 2450)
    let latched : State := { s with
      ess.sample := none
      ess.result := some { belowWarning := weak, belowErase := flat } }
    (s.pwr.supply ≠ .hold → exec (.batterySampleLatch vbat) s = .next
      (if weak then { latched with ci.flags := s.ci.flags ||| 0x080 } else latched)) ∧
    (s.pwr.supply = .hold → flat = false ∨ s.noKeys →
      exec (.batterySampleLatch vbat) s = .next latched) ∧
    (s.pwr.supply = .hold → flat = true → ¬s.noKeys →
      (s.ec.position ≠ none → exec (.batterySampleLatch vbat) s =
        .next { latched with ec.record.causes := s.ec.record.causes ||| 0b010000 }) ∧
      (s.ec.position = none → ∃ t, exec (.batterySampleLatch vbat) s = .next t ∧
        t.ec.position = some 0 ∧ t.ec.record.causes = 0b010000 ∧ t.tm.state = .tripped ∧
        t.ess = latched.ess ∧ t.kt = s.kt ∧ ∀ c, (t.channel c).transport = none))

/-- R138, R140, R141, R143 to R148: a conversion completes with C the count at which the integrator
crosses zero, but not below the count that de-integration has reached and at most 2N, so 2N once it has
counted that far. Its M is recorded; the next NORMAL conversion starts on the other mesh at the
configured N, and a HOLD one starts with HOLD_CONVERSION_START at N = 512. In ARMED an open or a short trips, a distance above W is a strike
and trips at K, and any other reading clears the strikes and may move the baseline. That the row completes
the conversion at whatever phase and count it stands, and carries the crossing as an operand, one below
the count reached being taken at that count, is the model's choice (assumption log 8 and 16). -/
def Obligations.ReadingsAreEvaluated : Prop :=
  (∀ s : State, s.tm.schedule = .hold → s.tm.conversion = none →
    exec .holdConversionStart s = .next { s with
      tm.conversion := some { mesh := s.tm.nextMesh, runUpCount := 512, phase := .runUp,
                              count := 0 }
      tm.nextMesh := match s.tm.nextMesh with | .a => .b | .b => .a }) ∧
  ∀ (s : State) cv crossing, s.tm.conversion = some cv →
    let other : Mesh := match cv.mesh with | .a => .b | .b => .a
    let reached := match cv.phase with | .runUp => 0 | .deIntegrate => cv.count
    let ends := if crossing ≤ reached then reached else crossing
    let m := (if ends ≤ 2 * cv.runUpCount then ends else 2 * cv.runUpCount) * 4096 / cv.runUpCount
    let old := s.tm.mesh cv.mesh
    let next : State := match s.tm.schedule with
      | .normal => { s with
          tm.conversion := some { mesh := other, runUpCount := s.tm.runUpCount, phase := .runUp,
                                  count := 0 }
          tm.nextMesh := cv.mesh }
      | .hold => { s with tm.conversion := none, tm.nextMesh := other }
    let recorded (r : MeshRecord) : State :=
      { next with tm := next.tm.setMesh cv.mesh { r with lastM := m, lastValid := true } }
    let run := exec (.conversionComplete crossing) s
    let trips (r : MeshRecord) (flags : BitVec 11) : Prop :=
      ∃ t, run = .next t ∧ t.tm = { (recorded r).tm with state := .tripped, learning := none } ∧
        t.kt = s.kt ∧ t.ci.flags = flags ∧
        (s.ec.position = none → t.ec.position = some 0 ∧
          t.ec.record.causes = match cv.mesh with | .a => 0b000001 | .b => 0b000010)
    let distance := if m ≤ old.baseline then old.baseline - m else m - old.baseline
    let moved := if s.tm.drift = true ∧ distance ≤ s.tm.window / 4 then
        if old.baseline ≤ m then old.baseline + distance / 16 else old.baseline - distance / 16
      else old.baseline
    let band := if old.learned + s.tm.window < moved then old.learned + s.tm.window
      else if moved + s.tm.window < old.learned then old.learned - s.tm.window
      else moved
    (s.tm.state = .unarmed ∨ s.tm.state = .tripped → run = .next (recorded old)) ∧
    (s.tm.state = .armed → s.ec.position = none →
      (m = 8192 ∨ m < 64 → trips old s.ci.flags) ∧
      (m ≠ 8192 → 64 ≤ m →
        (s.tm.window < distance →
          (old.strikes + 1 < s.tm.strikeLimit → run = .next
            { recorded { old with strikes := old.strikes + 1 } with
              ci.flags := s.ci.flags ||| 0x001 }) ∧
          (s.tm.strikeLimit ≤ old.strikes + 1 →
            trips { old with strikes := old.strikes + 1 } (s.ci.flags ||| 0x001))) ∧
        (distance ≤ s.tm.window →
          run = .next (recorded { old with strikes := 0, baseline := band }))))

/-- R149, R150, R151: a reading in LEARNING. The one of the conversion begun before ARM is not taken;
an open, a short or a spread above W fails learning; the eighth reading of both meshes succeeds, with
L and B the floor of the mean. C is not below the count that de-integration has reached (R138). That the
row completes the conversion at whatever phase and count it stands, and carries the crossing as an
operand, one below the count reached being taken at that count, is the model's choice (assumption log 8
and 16). -/
def Obligations.LearningTakesItsReadings : Prop :=
  ∀ (s : State) cv crossing l, s.tm.conversion = some cv → s.tm.state = .learning →
    s.tm.learning = some l →
    let reached := match cv.phase with | .runUp => 0 | .deIntegrate => cv.count
    let ends := if crossing ≤ reached then reached else crossing
    let m := (if ends ≤ 2 * cv.runUpCount then ends else 2 * cv.runUpCount) * 4096 / cv.runUpCount
    let run := exec (.conversionComplete crossing) s
    let recorded : TamperMonitor :=
      (s.tm.setMesh cv.mesh { s.tm.mesh cv.mesh with lastM := m, lastValid := true }).afterConversion
        cv.mesh
    let old := match cv.mesh with | .a => l.a | .b => l.b
    let least := match old.least with | none => m | some x => if m ≤ x then m else x
    let greatest := match old.greatest with | none => m | some x => if m ≤ x then x else m
    let tally : Tally :=
      { count := old.count + 1, sum := old.sum + m, least := some least,
        greatest := some greatest }
    let a := match cv.mesh with | .a => tally | .b => l.a
    let b := match cv.mesh with | .a => l.b | .b => tally
    let learned (r : MeshRecord) (t : Tally) : MeshRecord :=
      { r with learned := t.sum / 8, baseline := t.sum / 8, strikes := 0 }
    (l.begunBefore = true → run = .next { s with
      tm := { recorded with learning := some { l with begunBefore := false } } }) ∧
    (l.begunBefore = false →
      (m = 8192 ∨ m < 64 ∨ least + s.tm.window < greatest → run = .next { s with
        tm := { recorded with state := .unarmed, learning := none }
        ci.flags := s.ci.flags ||| 0x100 }) ∧
      (m ≠ 8192 → 64 ≤ m → greatest ≤ least + s.tm.window →
        (a.count < 8 ∨ b.count < 8 → run = .next { s with
          tm := { recorded with learning := some { begunBefore := false, a := a, b := b } } }) ∧
        (8 ≤ a.count → 8 ≤ b.count → run = .next { s with
          tm := { recorded with
            state := .armed
            learning := none
            meshA := learned recorded.meshA a
            meshB := learned recorded.meshB b }
          ci.flags := s.ci.flags ||| 0x100 })))

/-- R158, R159: both lids are sampled and debounced in one step, over 8 samples in normal power and 2
in hold, at an interval of 32 and of 512 crystal periods, which is a function of the supply state
(assumption log 27). A lid that becomes OPEN reports: learning fails, an ARMED monitor trips, and
otherwise nothing follows. Two lids that open in one sample report one after the other (deduced,
assumption log 23), and the row samples whenever it comes (assumption log 16). -/
def Obligations.LidSamplesAreDebounced : Prop :=
  ∀ (s : State) aOpen bOpen,
    let run := match s.pwr.supply with | .hold => 2 | _ => 8
    let sampled (isOpen : Bool) (l : Lid) : Lid :=
      if isOpen = l.isOpen then { l with disagree := 0 }
      else if l.disagree + 1 < run then { l with disagree := l.disagree + 1 }
      else { isOpen := isOpen, disagree := 0 }
    let a := sampled aOpen s.ess.lidA
    let b := sampled bOpen s.ess.lidB
    let opens := (s.ess.lidA.isOpen = false ∧ a.isOpen = true) ∨
      (s.ess.lidB.isOpen = false ∧ b.isOpen = true)
    let noted : State := { s with ess.lidA := a, ess.lidB := b }
    (s.pwr.supply.lidInterval = match s.pwr.supply with | .hold => 512 | _ => 32) ∧
    (¬opens ∨ s.tm.state = .unarmed ∨ s.tm.state = .tripped →
      exec (.lidSample aOpen bOpen) s = .next noted) ∧
    (opens → s.tm.state = .learning → exec (.lidSample aOpen bOpen) s = .next { noted with
      tm.state := .unarmed, tm.learning := none, ci.flags := s.ci.flags ||| 0x100 }) ∧
    (opens → s.tm.state = .armed → s.ec.position = none →
      ∃ t, exec (.lidSample aOpen bOpen) s = .next t ∧ t.ess = noted.ess ∧
        t.tm = { s.tm with state := .tripped, learning := none } ∧ t.ec.position = some 0 ∧
        t.ec.record.causes = 0b000100 ∧ t.ec.record.firstTrigger = s.pwr.seconds ∧
        t.ec.record.count = min (s.ec.record.count + 1) 65535 ∧ t.kt = s.kt)

/-- R162, R163, R164, R183: VDD crosses a level. In normal power the low timer starts below the
criterion and otherwise stops, a hold request sent being withdrawn; in hold the return timer starts
above the return level and otherwise stops, a restart request sent being withdrawn. That the rows carry
the level as an operand, and the levels of the address pins with it, is the model's choice (assumption
log 8 and 28). -/
def Obligations.TimersFollowTheMainSupply : Prop :=
  ∀ (s : State) vdd adr,
    let criterion := 3000 - 50 * s.ess.criterion.val
    let withdraw (kind : HeldRequest) : HeldRequest :=
      if s.pwr.held = kind then .none else s.pwr.held
    (s.pwr.supply ≠ .hold → vdd < criterion → exec (.vddBelowCriterion ⟨vdd, adr⟩) s = .next { s with
      pins.vdd := vdd
      pins.adr := adr
      ess.lowTimer := match s.ess.lowTimer with
        | .stopped => .running 0
        | timer => timer }) ∧
    (s.pwr.supply ≠ .hold → criterion ≤ vdd → exec (.vddAtCriterion ⟨vdd, adr⟩) s = .next { s with
      pins.vdd := vdd
      pins.adr := adr
      ess.lowTimer := .stopped
      ess.holdSent := false
      pwr.held := if s.ess.holdSent then withdraw .hold else s.pwr.held }) ∧
    (s.pwr.supply = .hold → criterion + 100 < vdd → exec (.vddAboveReturnLevel ⟨vdd, adr⟩) s = .next
      { s with
        pins.vdd := vdd
        pins.adr := adr
        ess.returnTimer := match s.ess.returnTimer with
          | .stopped => .running 0
          | timer => timer }) ∧
    (s.pwr.supply = .hold → vdd ≤ criterion + 100 → exec (.vddAtReturnLevel ⟨vdd, adr⟩) s = .next { s with
      pins.vdd := vdd
      pins.adr := adr
      ess.returnTimer := .stopped
      pwr.held := if s.ess.returnTimer = .atLimit then withdraw .restart else s.pwr.held })

/-- R162, R163, R178, R183, R185, R186, R187 step 1, R82: the low timer at 2 ms requests hold and the
return timer at 50 ms a restart; so does RESET. During an erase the request is held. Otherwise hold
entry loses the working state of every block and judges the last battery result again, and a restart
begins with that state initialised, resting there while RESET is low and going on at once while it is
high, its port address taken from the address pins; a RESET in hold is ignored, and so is the return timer
with the battery-lost latch set (R167, R89). That a return timer at 0 runs where VDD has stood above the
return level since the cold start is deduced (R189, assumption log 33). The resting of a restart out of
hold, the held RESET, the mesh that loses its last-valid flag, the timer rows' disregard of elapsed time
and of a part without feed, which rows bring the address levels, and that a beginning or an abandoning
of a restart at rest after step 1 leaves the restart count, are the model's (assumption log 9, 10, 11,
13, 15, 16, 28 and 34). -/
def Obligations.RequestsChangeTheSupplyState : Prop :=
  let lost (ch : Channel) : Channel :=
    { ch with requests := [], replies := [], sent := none, refusal := none, assembly := none,
              admitted := 0 }
  let working (port : Port) (s : State) : State := { s with
    su := { pointer := 7, inService := none }
    cc := { keyBuffer := [], current := none, waiting := [] }
    channels := s.channels.map lost
    lhi.highway := .off
    lhi.pendingMap := none
    lhi.tx := none
    lhi.rx := none
    ci.port := port
    ci.decided := none
    ci.presence := []
    ci.window.remaining := 0
    ci.window.running := false
    ci.expiryPending := false
    ci.challenge := none
    ci.random := { lastPassed := none, test := .noTest }
    ci.flags := 0
    ci.violations := { pair := none, count := 0 }
    cec := none }
  let notLearning (x : MonitorState) : MonitorState := if x = .learning then .unarmed else x
  let fresh (m : Mesh) (n : Nat) : Option Conversion :=
    some { mesh := m, runUpCount := n, phase := .runUp, count := 0 }
  let begun (s : State) : State :=
    let r (x : MeshRecord) : MeshRecord := { x with strikes := 0, lastM := 0, lastValid := false }
    { working .starting s with
      ci.address := 0x58 + s.pins.adr.setWidth 7
      tm := { s.tm with
        state := notLearning s.tm.state, learning := none, schedule := .normal
        meshA := r s.tm.meshA, meshB := r s.tm.meshB
        conversion := fresh .a s.tm.runUpCount, nextMesh := .b }
      ess := { s.ess with
        lidA := { isOpen := false, disagree := 0 }, lidB := { isOpen := false, disagree := 0 }
        emzHigh := s.pins.emzHigh
        lowTimer := if s.pins.vdd < 3000 - 50 * s.ess.criterion.val then .running 0 else .stopped
        returnTimer := .stopped, holdSent := false, sample := none, result := none }
      pwr := { s.pwr with
        supply := .restarting .initialised s.pwr.coldPending, held := .none, resetHeld := false
        coldPending := false } }
  (∀ (s : State) e, s.pwr.supply ≠ .hold → s.ess.lowTimer = .running e →
    let sent : State := { s with ess.lowTimer := .atLimit, ess.holdSent := true }
    (s.ec.position ≠ none → exec .lowTimerExpiry s = .next { sent with pwr.held := .hold }) ∧
    (s.ec.position = none →
      (∀ x, s.ess.result = some x → x.belowErase = false ∨ s.noKeys) →
      ∀ cv, s.tm.conversion = some cv →
        let r (m : Mesh) (x : MeshRecord) : MeshRecord :=
          { x with strikes := 0, lastValid := if cv.mesh = m then false else x.lastValid }
        exec .lowTimerExpiry s = .next { working .off s with
          tm := { s.tm with
            state := notLearning s.tm.state, learning := none, schedule := .hold
            meshA := r .a s.tm.meshA, meshB := r .b s.tm.meshB
            conversion := fresh cv.mesh 512
            nextMesh := match cv.mesh with | .a => .b | .b => .a }
          ess := { s.ess with
            lidA.disagree := 0, lidB.disagree := 0, lowTimer := .stopped, holdSent := true
            returnTimer := if 3100 - 50 * s.ess.criterion.val < s.pins.vdd then .running 0
                           else .stopped }
          pwr := { s.pwr with supply := .hold, held := .none, resetHeld := false } }) ∧
    (s.ec.position = none → (∃ x, s.ess.result = some x ∧ x.belowErase = true) → ¬s.noKeys →
      ∃ t, exec .lowTimerExpiry s = .next t ∧ t.pwr.supply = .hold ∧ t.ci.port = .off ∧
        t.ec.position = some 0 ∧ t.ec.record.causes = 0b010000 ∧ t.tm.state = .tripped)) ∧
  (∀ s : State, s.pwr.supply = .hold →
    (∃ e, s.ess.returnTimer = .running e) ∨
      (s.ess.returnTimer = .stopped ∧ 3100 - 50 * s.ess.criterion.val < s.pins.vdd) →
    let run := exec .returnTimerExpiry s
    (s.pwr.batteryLost = true → run = .next s) ∧
    (s.pwr.batteryLost = false →
      (s.ec.position ≠ none → run =
        .next { s with ess.returnTimer := .atLimit, pwr.held := .restart }) ∧
      (s.ec.position = none → s.pins.resetLow = true → run = .next (begun s)) ∧
      (s.ec.position = none → s.pins.resetLow = false →
        run = exec .resetRelease (begun s)))) ∧
  ∀ s : State,
    let low : State := { s with pins.resetLow := true }
    let run := exec .resetLow s
    (s.pwr.supply = .hold → run = .next low) ∧
    (s.pwr.supply ≠ .hold → s.ec.position ≠ none →
      run = .next { low with pwr.held := .restart, pwr.resetHeld := true }) ∧
    (s.pwr.supply ≠ .hold → s.ec.position = none → run = .next (begun low))

/-- R186, R187, R188, R189: when RESET rises, a restart resting after step 1 goes on. Step 2 raises the
restart count, unless the restart follows a cold start; with no key stored step 3 ends at once, and
steps 4 and 5 raise RESTARTED, make the port READY, the highway ENABLING and the supply state NORMAL;
with one stored the first is claimed for the self-check: the first entry that holds keys or, where none
does, the first channel that holds a transport key. The pause during an erase and the first restart
after a cold start are deduced (assumption log 10, 11 and 26). That the count rises in step 2 alone, and
not at a beginning that never reaches it, is the model's choice (assumption log 34). -/
def Obligations.ResetReleaseGoesOn : Prop :=
  ∀ s : State,
    let high : State := { s with pins.resetLow := false }
    ((∀ cold, s.pwr.supply ≠ .restarting .initialised cold) ∨ s.ec.position ≠ none →
      exec .resetRelease s = .next high) ∧
    ∀ cold, s.pwr.supply = .restarting .initialised cold → s.ec.position = none →
      let count := if cold then s.pwr.restartCount else min (s.pwr.restartCount + 1) 65535
      let visits (q : CheckPosition) (job : Job) : Prop :=
        exec .resetRelease s = .next { high with
          pwr.supply := .restarting (.checking q) cold
          pwr.restartCount := count
          cc := s.cc.present job }
      (s.noKeys → exec .resetRelease s = .next { high with
        pwr.supply := .normal
        pwr.restartCount := count
        ci.port := .ready none
        ci.flags := if cold then s.ci.flags else s.ci.flags ||| 0x400
        lhi.highway := .enabling 0 }) ∧
      (∀ i d suspended current previous, s.entry i = .held d suspended current previous →
        (∀ j, j < i → (s.entry j).isHeld = false) →
        visits (.entry i) (.checkEntry current.value (previous.map (·.value)))) ∧
      ∀ c g, (∀ i, (s.entry i).isHeld = false) → (s.channel c).transport = some g →
        (∀ d, d < c → (s.channel d).transport = none) →
        visits (.channel c) (.checkTransport g.value)

/-- R167, R178, R189, R173, R175, R183, R186, R187: the retention feed's loss sets the battery-lost latch
and loses the contents; a power-up with the latch set gives every item its cold-start value. ERASE_ENTRY
empties the entry at the erase position and moves it on; with entry 95 the erase completes and ERASE_DONE
is raised. Then a held hold request enters hold, and a held restart request, or with no request held a
held RESET, begins a restart, which rests after step 1 while RESET is low and otherwise finds no key and
ends. With nothing held, NORMAL and HOLD stand, and a restart under way goes on: one at rest after step 1
once RESET is high, one whose self-check the erase ended at step 4. What stands between the loss and the
cold start, the pins of a cold start and which rows bring the address levels are the model's
(assumption log 14, 15 and 28); a power-up with the latch clear changes nothing (assumption log 3). That
the return timer stands at 0 in the power-up step whatever VDD is, and runs from then on where VDD is
above the return level, is deduced (assumption log 33), and so are the held RESET, the first restart
after a cold start and the pause (assumption log 9, 10, 11 and 26). That the restart count rises in
step 2 alone is the model's choice (assumption log 34). -/
def Obligations.ColdStartAndTheErasePass : Prop :=
  (∀ s : State, exec .retentionFeedLoss s = .next { State.reset with
    ess.emzHigh := s.pins.emzHigh
    pwr.batteryLost := true
    pins := s.pins
    pending := s.pending }) ∧
  (∀ (s : State) emzHigh adr vdd, s.pwr.batteryLost = true →
    exec (.coldStart emzHigh adr vdd) s = .next { State.reset with
      ess.emzHigh := emzHigh
      pins := { s.pins with vdd := vdd, emzHigh := emzHigh, adr := adr }
      pending := s.pending }) ∧
  (∀ (s : State) emzHigh adr vdd, s.pwr.batteryLost = false →
    exec (.coldStart emzHigh adr vdd) s = .next s) ∧
  ∀ (s : State) i, s.ec.position = some i →
    let emptied : State := s.setEntry i .empty
    let completed : State := { emptied with
      ec.position := none
      ec.record.completed := true
      ci.flags := s.ci.flags ||| 0x002 }
    let opened (cold : Bool) (t : State) : State := { t with
      pwr.supply := .normal
      ci.port := .ready none
      ci.flags := if cold then t.ci.flags else t.ci.flags ||| 0x400
      lhi.highway := .enabling 0 }
    let counted (cold : Bool) : Nat :=
      if cold then s.pwr.restartCount else min (s.pwr.restartCount + 1) 65535
    let run := exec .eraseEntry s
    let restarts : Prop := ∃ t, run = .next t ∧ t.ec = completed.ec ∧ t.kt = completed.kt ∧
      t.ci.address = 0x58 + s.pins.adr.setWidth 7 ∧
      (s.pins.resetLow = true → t.ci.port = .starting ∧ t.ci.flags = 0 ∧ t.lhi.highway = .off ∧
        t.pwr = { s.pwr with
          supply := .restarting .initialised s.pwr.coldPending
          held := .none, resetHeld := false, coldPending := false }) ∧
      (s.pins.resetLow = false → t.ci.port = .ready none ∧ t.lhi.highway = .enabling 0 ∧
        t.ci.flags = (if s.pwr.coldPending then 0 else 0x400) ∧
        t.pwr = { s.pwr with
          supply := .normal, restartCount := counted s.pwr.coldPending
          held := .none, resetHeld := false, coldPending := false })
    (∀ j : EntryIndex, j.val = i.val + 1 → run = .next { emptied with ec.position := some j }) ∧
    (i.val = 95 → s.pwr.held = .none → s.pwr.resetHeld = false →
      (s.pwr.supply = .normal ∨ s.pwr.supply = .hold → run = .next completed) ∧
      (∀ cold, s.pwr.supply = .restarting .initialised cold →
        (s.pins.resetLow = true → run = .next completed) ∧
        (s.pins.resetLow = false → s.KeyLaw →
          run = .next (opened cold { completed with pwr.restartCount := counted cold }))) ∧
      ∀ cold, s.pwr.supply = .restarting .checked cold → run = .next (opened cold completed)) ∧
    (i.val = 95 → s.pwr.held = .restart ∨ (s.pwr.held = .none ∧ s.pwr.resetHeld = true) →
      s.KeyLaw → restarts) ∧
    (i.val = 95 → s.pwr.held = .hold → s.KeyLaw → ∃ t, run = .next t ∧
      t.pwr.supply = .hold ∧ t.ec.position = none ∧ t.ec.record.completed = true ∧
      t.ci.port = .off ∧ t.ci.flags = 0)

end
end

