-- ==== Sys2Proof/Laws/State.lean ====
section
/-! SUPPORT. One lemma per field per replaced block of State: what a replacement gives and what it
leaves. With them no proof unfolds a record update. -/

namespace Sys2Proof.Machine

/-! ## withKt -/

@[simp] theorem State.withKt_kt (s : State) (x) : (s.withKt x).kt = x := rfl
@[simp] theorem State.withKt_su (s : State) (x) : (s.withKt x).su = s.su := rfl
@[simp] theorem State.withKt_cc (s : State) (x) : (s.withKt x).cc = s.cc := rfl
@[simp] theorem State.withKt_channels (s : State) (x) : (s.withKt x).channels = s.channels := rfl
@[simp] theorem State.withKt_lhi (s : State) (x) : (s.withKt x).lhi = s.lhi := rfl
@[simp] theorem State.withKt_ci (s : State) (x) : (s.withKt x).ci = s.ci := rfl
@[simp] theorem State.withKt_cec (s : State) (x) : (s.withKt x).cec = s.cec := rfl
@[simp] theorem State.withKt_tm (s : State) (x) : (s.withKt x).tm = s.tm := rfl
@[simp] theorem State.withKt_ess (s : State) (x) : (s.withKt x).ess = s.ess := rfl
@[simp] theorem State.withKt_ec (s : State) (x) : (s.withKt x).ec = s.ec := rfl
@[simp] theorem State.withKt_pwr (s : State) (x) : (s.withKt x).pwr = s.pwr := rfl
@[simp] theorem State.withKt_pins (s : State) (x) : (s.withKt x).pins = s.pins := rfl
@[simp] theorem State.withKt_pending (s : State) (x) : (s.withKt x).pending = s.pending := rfl

/-! ## withSu -/

@[simp] theorem State.withSu_kt (s : State) (x) : (s.withSu x).kt = s.kt := rfl
@[simp] theorem State.withSu_su (s : State) (x) : (s.withSu x).su = x := rfl
@[simp] theorem State.withSu_cc (s : State) (x) : (s.withSu x).cc = s.cc := rfl
@[simp] theorem State.withSu_channels (s : State) (x) : (s.withSu x).channels = s.channels := rfl
@[simp] theorem State.withSu_lhi (s : State) (x) : (s.withSu x).lhi = s.lhi := rfl
@[simp] theorem State.withSu_ci (s : State) (x) : (s.withSu x).ci = s.ci := rfl
@[simp] theorem State.withSu_cec (s : State) (x) : (s.withSu x).cec = s.cec := rfl
@[simp] theorem State.withSu_tm (s : State) (x) : (s.withSu x).tm = s.tm := rfl
@[simp] theorem State.withSu_ess (s : State) (x) : (s.withSu x).ess = s.ess := rfl
@[simp] theorem State.withSu_ec (s : State) (x) : (s.withSu x).ec = s.ec := rfl
@[simp] theorem State.withSu_pwr (s : State) (x) : (s.withSu x).pwr = s.pwr := rfl
@[simp] theorem State.withSu_pins (s : State) (x) : (s.withSu x).pins = s.pins := rfl
@[simp] theorem State.withSu_pending (s : State) (x) : (s.withSu x).pending = s.pending := rfl

/-! ## withCc -/

@[simp] theorem State.withCc_kt (s : State) (x) : (s.withCc x).kt = s.kt := rfl
@[simp] theorem State.withCc_su (s : State) (x) : (s.withCc x).su = s.su := rfl
@[simp] theorem State.withCc_cc (s : State) (x) : (s.withCc x).cc = x := rfl
@[simp] theorem State.withCc_channels (s : State) (x) : (s.withCc x).channels = s.channels := rfl
@[simp] theorem State.withCc_lhi (s : State) (x) : (s.withCc x).lhi = s.lhi := rfl
@[simp] theorem State.withCc_ci (s : State) (x) : (s.withCc x).ci = s.ci := rfl
@[simp] theorem State.withCc_cec (s : State) (x) : (s.withCc x).cec = s.cec := rfl
@[simp] theorem State.withCc_tm (s : State) (x) : (s.withCc x).tm = s.tm := rfl
@[simp] theorem State.withCc_ess (s : State) (x) : (s.withCc x).ess = s.ess := rfl
@[simp] theorem State.withCc_ec (s : State) (x) : (s.withCc x).ec = s.ec := rfl
@[simp] theorem State.withCc_pwr (s : State) (x) : (s.withCc x).pwr = s.pwr := rfl
@[simp] theorem State.withCc_pins (s : State) (x) : (s.withCc x).pins = s.pins := rfl
@[simp] theorem State.withCc_pending (s : State) (x) : (s.withCc x).pending = s.pending := rfl

/-! ## withChannels -/

@[simp] theorem State.withChannels_kt (s : State) (x) : (s.withChannels x).kt = s.kt := rfl
@[simp] theorem State.withChannels_su (s : State) (x) : (s.withChannels x).su = s.su := rfl
@[simp] theorem State.withChannels_cc (s : State) (x) : (s.withChannels x).cc = s.cc := rfl
@[simp] theorem State.withChannels_channels (s : State) (x) : (s.withChannels x).channels = x := rfl
@[simp] theorem State.withChannels_lhi (s : State) (x) : (s.withChannels x).lhi = s.lhi := rfl
@[simp] theorem State.withChannels_ci (s : State) (x) : (s.withChannels x).ci = s.ci := rfl
@[simp] theorem State.withChannels_cec (s : State) (x) : (s.withChannels x).cec = s.cec := rfl
@[simp] theorem State.withChannels_tm (s : State) (x) : (s.withChannels x).tm = s.tm := rfl
@[simp] theorem State.withChannels_ess (s : State) (x) : (s.withChannels x).ess = s.ess := rfl
@[simp] theorem State.withChannels_ec (s : State) (x) : (s.withChannels x).ec = s.ec := rfl
@[simp] theorem State.withChannels_pwr (s : State) (x) : (s.withChannels x).pwr = s.pwr := rfl
@[simp] theorem State.withChannels_pins (s : State) (x) : (s.withChannels x).pins = s.pins := rfl
@[simp] theorem State.withChannels_pending (s : State) (x) : (s.withChannels x).pending = s.pending := rfl

/-! ## withLhi -/

@[simp] theorem State.withLhi_kt (s : State) (x) : (s.withLhi x).kt = s.kt := rfl
@[simp] theorem State.withLhi_su (s : State) (x) : (s.withLhi x).su = s.su := rfl
@[simp] theorem State.withLhi_cc (s : State) (x) : (s.withLhi x).cc = s.cc := rfl
@[simp] theorem State.withLhi_channels (s : State) (x) : (s.withLhi x).channels = s.channels := rfl
@[simp] theorem State.withLhi_lhi (s : State) (x) : (s.withLhi x).lhi = x := rfl
@[simp] theorem State.withLhi_ci (s : State) (x) : (s.withLhi x).ci = s.ci := rfl
@[simp] theorem State.withLhi_cec (s : State) (x) : (s.withLhi x).cec = s.cec := rfl
@[simp] theorem State.withLhi_tm (s : State) (x) : (s.withLhi x).tm = s.tm := rfl
@[simp] theorem State.withLhi_ess (s : State) (x) : (s.withLhi x).ess = s.ess := rfl
@[simp] theorem State.withLhi_ec (s : State) (x) : (s.withLhi x).ec = s.ec := rfl
@[simp] theorem State.withLhi_pwr (s : State) (x) : (s.withLhi x).pwr = s.pwr := rfl
@[simp] theorem State.withLhi_pins (s : State) (x) : (s.withLhi x).pins = s.pins := rfl
@[simp] theorem State.withLhi_pending (s : State) (x) : (s.withLhi x).pending = s.pending := rfl

/-! ## withCi -/

@[simp] theorem State.withCi_kt (s : State) (x) : (s.withCi x).kt = s.kt := rfl
@[simp] theorem State.withCi_su (s : State) (x) : (s.withCi x).su = s.su := rfl
@[simp] theorem State.withCi_cc (s : State) (x) : (s.withCi x).cc = s.cc := rfl
@[simp] theorem State.withCi_channels (s : State) (x) : (s.withCi x).channels = s.channels := rfl
@[simp] theorem State.withCi_lhi (s : State) (x) : (s.withCi x).lhi = s.lhi := rfl
@[simp] theorem State.withCi_ci (s : State) (x) : (s.withCi x).ci = x := rfl
@[simp] theorem State.withCi_cec (s : State) (x) : (s.withCi x).cec = s.cec := rfl
@[simp] theorem State.withCi_tm (s : State) (x) : (s.withCi x).tm = s.tm := rfl
@[simp] theorem State.withCi_ess (s : State) (x) : (s.withCi x).ess = s.ess := rfl
@[simp] theorem State.withCi_ec (s : State) (x) : (s.withCi x).ec = s.ec := rfl
@[simp] theorem State.withCi_pwr (s : State) (x) : (s.withCi x).pwr = s.pwr := rfl
@[simp] theorem State.withCi_pins (s : State) (x) : (s.withCi x).pins = s.pins := rfl
@[simp] theorem State.withCi_pending (s : State) (x) : (s.withCi x).pending = s.pending := rfl

/-! ## withCec -/

@[simp] theorem State.withCec_kt (s : State) (x) : (s.withCec x).kt = s.kt := rfl
@[simp] theorem State.withCec_su (s : State) (x) : (s.withCec x).su = s.su := rfl
@[simp] theorem State.withCec_cc (s : State) (x) : (s.withCec x).cc = s.cc := rfl
@[simp] theorem State.withCec_channels (s : State) (x) : (s.withCec x).channels = s.channels := rfl
@[simp] theorem State.withCec_lhi (s : State) (x) : (s.withCec x).lhi = s.lhi := rfl
@[simp] theorem State.withCec_ci (s : State) (x) : (s.withCec x).ci = s.ci := rfl
@[simp] theorem State.withCec_cec (s : State) (x) : (s.withCec x).cec = x := rfl
@[simp] theorem State.withCec_tm (s : State) (x) : (s.withCec x).tm = s.tm := rfl
@[simp] theorem State.withCec_ess (s : State) (x) : (s.withCec x).ess = s.ess := rfl
@[simp] theorem State.withCec_ec (s : State) (x) : (s.withCec x).ec = s.ec := rfl
@[simp] theorem State.withCec_pwr (s : State) (x) : (s.withCec x).pwr = s.pwr := rfl
@[simp] theorem State.withCec_pins (s : State) (x) : (s.withCec x).pins = s.pins := rfl
@[simp] theorem State.withCec_pending (s : State) (x) : (s.withCec x).pending = s.pending := rfl

/-! ## withTm -/

@[simp] theorem State.withTm_kt (s : State) (x) : (s.withTm x).kt = s.kt := rfl
@[simp] theorem State.withTm_su (s : State) (x) : (s.withTm x).su = s.su := rfl
@[simp] theorem State.withTm_cc (s : State) (x) : (s.withTm x).cc = s.cc := rfl
@[simp] theorem State.withTm_channels (s : State) (x) : (s.withTm x).channels = s.channels := rfl
@[simp] theorem State.withTm_lhi (s : State) (x) : (s.withTm x).lhi = s.lhi := rfl
@[simp] theorem State.withTm_ci (s : State) (x) : (s.withTm x).ci = s.ci := rfl
@[simp] theorem State.withTm_cec (s : State) (x) : (s.withTm x).cec = s.cec := rfl
@[simp] theorem State.withTm_tm (s : State) (x) : (s.withTm x).tm = x := rfl
@[simp] theorem State.withTm_ess (s : State) (x) : (s.withTm x).ess = s.ess := rfl
@[simp] theorem State.withTm_ec (s : State) (x) : (s.withTm x).ec = s.ec := rfl
@[simp] theorem State.withTm_pwr (s : State) (x) : (s.withTm x).pwr = s.pwr := rfl
@[simp] theorem State.withTm_pins (s : State) (x) : (s.withTm x).pins = s.pins := rfl
@[simp] theorem State.withTm_pending (s : State) (x) : (s.withTm x).pending = s.pending := rfl

/-! ## withEss -/

@[simp] theorem State.withEss_kt (s : State) (x) : (s.withEss x).kt = s.kt := rfl
@[simp] theorem State.withEss_su (s : State) (x) : (s.withEss x).su = s.su := rfl
@[simp] theorem State.withEss_cc (s : State) (x) : (s.withEss x).cc = s.cc := rfl
@[simp] theorem State.withEss_channels (s : State) (x) : (s.withEss x).channels = s.channels := rfl
@[simp] theorem State.withEss_lhi (s : State) (x) : (s.withEss x).lhi = s.lhi := rfl
@[simp] theorem State.withEss_ci (s : State) (x) : (s.withEss x).ci = s.ci := rfl
@[simp] theorem State.withEss_cec (s : State) (x) : (s.withEss x).cec = s.cec := rfl
@[simp] theorem State.withEss_tm (s : State) (x) : (s.withEss x).tm = s.tm := rfl
@[simp] theorem State.withEss_ess (s : State) (x) : (s.withEss x).ess = x := rfl
@[simp] theorem State.withEss_ec (s : State) (x) : (s.withEss x).ec = s.ec := rfl
@[simp] theorem State.withEss_pwr (s : State) (x) : (s.withEss x).pwr = s.pwr := rfl
@[simp] theorem State.withEss_pins (s : State) (x) : (s.withEss x).pins = s.pins := rfl
@[simp] theorem State.withEss_pending (s : State) (x) : (s.withEss x).pending = s.pending := rfl

/-! ## withEc -/

@[simp] theorem State.withEc_kt (s : State) (x) : (s.withEc x).kt = s.kt := rfl
@[simp] theorem State.withEc_su (s : State) (x) : (s.withEc x).su = s.su := rfl
@[simp] theorem State.withEc_cc (s : State) (x) : (s.withEc x).cc = s.cc := rfl
@[simp] theorem State.withEc_channels (s : State) (x) : (s.withEc x).channels = s.channels := rfl
@[simp] theorem State.withEc_lhi (s : State) (x) : (s.withEc x).lhi = s.lhi := rfl
@[simp] theorem State.withEc_ci (s : State) (x) : (s.withEc x).ci = s.ci := rfl
@[simp] theorem State.withEc_cec (s : State) (x) : (s.withEc x).cec = s.cec := rfl
@[simp] theorem State.withEc_tm (s : State) (x) : (s.withEc x).tm = s.tm := rfl
@[simp] theorem State.withEc_ess (s : State) (x) : (s.withEc x).ess = s.ess := rfl
@[simp] theorem State.withEc_ec (s : State) (x) : (s.withEc x).ec = x := rfl
@[simp] theorem State.withEc_pwr (s : State) (x) : (s.withEc x).pwr = s.pwr := rfl
@[simp] theorem State.withEc_pins (s : State) (x) : (s.withEc x).pins = s.pins := rfl
@[simp] theorem State.withEc_pending (s : State) (x) : (s.withEc x).pending = s.pending := rfl

/-! ## withPwr -/

@[simp] theorem State.withPwr_kt (s : State) (x) : (s.withPwr x).kt = s.kt := rfl
@[simp] theorem State.withPwr_su (s : State) (x) : (s.withPwr x).su = s.su := rfl
@[simp] theorem State.withPwr_cc (s : State) (x) : (s.withPwr x).cc = s.cc := rfl
@[simp] theorem State.withPwr_channels (s : State) (x) : (s.withPwr x).channels = s.channels := rfl
@[simp] theorem State.withPwr_lhi (s : State) (x) : (s.withPwr x).lhi = s.lhi := rfl
@[simp] theorem State.withPwr_ci (s : State) (x) : (s.withPwr x).ci = s.ci := rfl
@[simp] theorem State.withPwr_cec (s : State) (x) : (s.withPwr x).cec = s.cec := rfl
@[simp] theorem State.withPwr_tm (s : State) (x) : (s.withPwr x).tm = s.tm := rfl
@[simp] theorem State.withPwr_ess (s : State) (x) : (s.withPwr x).ess = s.ess := rfl
@[simp] theorem State.withPwr_ec (s : State) (x) : (s.withPwr x).ec = s.ec := rfl
@[simp] theorem State.withPwr_pwr (s : State) (x) : (s.withPwr x).pwr = x := rfl
@[simp] theorem State.withPwr_pins (s : State) (x) : (s.withPwr x).pins = s.pins := rfl
@[simp] theorem State.withPwr_pending (s : State) (x) : (s.withPwr x).pending = s.pending := rfl

/-! ## withPins -/

@[simp] theorem State.withPins_kt (s : State) (x) : (s.withPins x).kt = s.kt := rfl
@[simp] theorem State.withPins_su (s : State) (x) : (s.withPins x).su = s.su := rfl
@[simp] theorem State.withPins_cc (s : State) (x) : (s.withPins x).cc = s.cc := rfl
@[simp] theorem State.withPins_channels (s : State) (x) : (s.withPins x).channels = s.channels := rfl
@[simp] theorem State.withPins_lhi (s : State) (x) : (s.withPins x).lhi = s.lhi := rfl
@[simp] theorem State.withPins_ci (s : State) (x) : (s.withPins x).ci = s.ci := rfl
@[simp] theorem State.withPins_cec (s : State) (x) : (s.withPins x).cec = s.cec := rfl
@[simp] theorem State.withPins_tm (s : State) (x) : (s.withPins x).tm = s.tm := rfl
@[simp] theorem State.withPins_ess (s : State) (x) : (s.withPins x).ess = s.ess := rfl
@[simp] theorem State.withPins_ec (s : State) (x) : (s.withPins x).ec = s.ec := rfl
@[simp] theorem State.withPins_pwr (s : State) (x) : (s.withPins x).pwr = s.pwr := rfl
@[simp] theorem State.withPins_pins (s : State) (x) : (s.withPins x).pins = x := rfl
@[simp] theorem State.withPins_pending (s : State) (x) : (s.withPins x).pending = s.pending := rfl

/-! ## withPending -/

@[simp] theorem State.withPending_kt (s : State) (x) : (s.withPending x).kt = s.kt := rfl
@[simp] theorem State.withPending_su (s : State) (x) : (s.withPending x).su = s.su := rfl
@[simp] theorem State.withPending_cc (s : State) (x) : (s.withPending x).cc = s.cc := rfl
@[simp] theorem State.withPending_channels (s : State) (x) : (s.withPending x).channels =
    s.channels := rfl
@[simp] theorem State.withPending_lhi (s : State) (x) : (s.withPending x).lhi = s.lhi := rfl
@[simp] theorem State.withPending_ci (s : State) (x) : (s.withPending x).ci = s.ci := rfl
@[simp] theorem State.withPending_cec (s : State) (x) : (s.withPending x).cec = s.cec := rfl
@[simp] theorem State.withPending_tm (s : State) (x) : (s.withPending x).tm = s.tm := rfl
@[simp] theorem State.withPending_ess (s : State) (x) : (s.withPending x).ess = s.ess := rfl
@[simp] theorem State.withPending_ec (s : State) (x) : (s.withPending x).ec = s.ec := rfl
@[simp] theorem State.withPending_pwr (s : State) (x) : (s.withPending x).pwr = s.pwr := rfl
@[simp] theorem State.withPending_pins (s : State) (x) : (s.withPending x).pins = s.pins := rfl
@[simp] theorem State.withPending_pending (s : State) (x) : (s.withPending x).pending = x := rfl

end Sys2Proof.Machine
end

