-- ==== Sys2Proof/Laws/Blocks.lean ====
section
/-! SUPPORT. What each shared operation on one or two blocks leaves as it stands: events, the Key
Table, the channel records, presence and the port, the Cipher Core, learning. -/

namespace Sys2Proof.Machine

/-! ## Events (R105) -/

@[simp] theorem State.raiseEvent_kt (e : Event) (s : State) :
    (s.raiseEvent e).kt = s.kt := rfl
@[simp] theorem State.raiseEvent_su (e : Event) (s : State) :
    (s.raiseEvent e).su = s.su := rfl
@[simp] theorem State.raiseEvent_cc (e : Event) (s : State) :
    (s.raiseEvent e).cc = s.cc := rfl
@[simp] theorem State.raiseEvent_channels (e : Event) (s : State) :
    (s.raiseEvent e).channels = s.channels := rfl
@[simp] theorem State.raiseEvent_lhi (e : Event) (s : State) :
    (s.raiseEvent e).lhi = s.lhi := rfl
@[simp] theorem State.raiseEvent_cec (e : Event) (s : State) :
    (s.raiseEvent e).cec = s.cec := rfl
@[simp] theorem State.raiseEvent_tm (e : Event) (s : State) :
    (s.raiseEvent e).tm = s.tm := rfl
@[simp] theorem State.raiseEvent_ess (e : Event) (s : State) :
    (s.raiseEvent e).ess = s.ess := rfl
@[simp] theorem State.raiseEvent_ec (e : Event) (s : State) :
    (s.raiseEvent e).ec = s.ec := rfl
@[simp] theorem State.raiseEvent_pwr (e : Event) (s : State) :
    (s.raiseEvent e).pwr = s.pwr := rfl
@[simp] theorem State.raiseEvent_pins (e : Event) (s : State) :
    (s.raiseEvent e).pins = s.pins := rfl
@[simp] theorem State.raiseEvent_pending (e : Event) (s : State) :
    (s.raiseEvent e).pending = s.pending := rfl

@[simp] theorem State.raiseIf_kt (b : Bool) (e : Event) (s : State) :
    (s.raiseIf b e).kt = s.kt := by
  unfold State.raiseIf
  split <;> simp
@[simp] theorem State.raiseIf_su (b : Bool) (e : Event) (s : State) :
    (s.raiseIf b e).su = s.su := by
  unfold State.raiseIf
  split <;> simp
@[simp] theorem State.raiseIf_cc (b : Bool) (e : Event) (s : State) :
    (s.raiseIf b e).cc = s.cc := by
  unfold State.raiseIf
  split <;> simp
@[simp] theorem State.raiseIf_channels (b : Bool) (e : Event) (s : State) :
    (s.raiseIf b e).channels = s.channels := by
  unfold State.raiseIf
  split <;> simp
@[simp] theorem State.raiseIf_lhi (b : Bool) (e : Event) (s : State) :
    (s.raiseIf b e).lhi = s.lhi := by
  unfold State.raiseIf
  split <;> simp
@[simp] theorem State.raiseIf_cec (b : Bool) (e : Event) (s : State) :
    (s.raiseIf b e).cec = s.cec := by
  unfold State.raiseIf
  split <;> simp
@[simp] theorem State.raiseIf_tm (b : Bool) (e : Event) (s : State) :
    (s.raiseIf b e).tm = s.tm := by
  unfold State.raiseIf
  split <;> simp
@[simp] theorem State.raiseIf_ess (b : Bool) (e : Event) (s : State) :
    (s.raiseIf b e).ess = s.ess := by
  unfold State.raiseIf
  split <;> simp
@[simp] theorem State.raiseIf_ec (b : Bool) (e : Event) (s : State) :
    (s.raiseIf b e).ec = s.ec := by
  unfold State.raiseIf
  split <;> simp
@[simp] theorem State.raiseIf_pwr (b : Bool) (e : Event) (s : State) :
    (s.raiseIf b e).pwr = s.pwr := by
  unfold State.raiseIf
  split <;> simp
@[simp] theorem State.raiseIf_pins (b : Bool) (e : Event) (s : State) :
    (s.raiseIf b e).pins = s.pins := by
  unfold State.raiseIf
  split <;> simp
@[simp] theorem State.raiseIf_pending (b : Bool) (e : Event) (s : State) :
    (s.raiseIf b e).pending = s.pending := by
  unfold State.raiseIf
  split <;> simp

@[simp] theorem State.reportViolation_kt (c : ChannelNo) (i : EntryIndex) (s : State) :
    (s.reportViolation c i).kt = s.kt := rfl
@[simp] theorem State.reportViolation_su (c : ChannelNo) (i : EntryIndex) (s : State) :
    (s.reportViolation c i).su = s.su := rfl
@[simp] theorem State.reportViolation_cc (c : ChannelNo) (i : EntryIndex) (s : State) :
    (s.reportViolation c i).cc = s.cc := rfl
@[simp] theorem State.reportViolation_channels (c : ChannelNo) (i : EntryIndex) (s : State) :
    (s.reportViolation c i).channels = s.channels := rfl
@[simp] theorem State.reportViolation_lhi (c : ChannelNo) (i : EntryIndex) (s : State) :
    (s.reportViolation c i).lhi = s.lhi := rfl
@[simp] theorem State.reportViolation_cec (c : ChannelNo) (i : EntryIndex) (s : State) :
    (s.reportViolation c i).cec = s.cec := rfl
@[simp] theorem State.reportViolation_tm (c : ChannelNo) (i : EntryIndex) (s : State) :
    (s.reportViolation c i).tm = s.tm := rfl
@[simp] theorem State.reportViolation_ess (c : ChannelNo) (i : EntryIndex) (s : State) :
    (s.reportViolation c i).ess = s.ess := rfl
@[simp] theorem State.reportViolation_ec (c : ChannelNo) (i : EntryIndex) (s : State) :
    (s.reportViolation c i).ec = s.ec := rfl
@[simp] theorem State.reportViolation_pwr (c : ChannelNo) (i : EntryIndex) (s : State) :
    (s.reportViolation c i).pwr = s.pwr := rfl
@[simp] theorem State.reportViolation_pins (c : ChannelNo) (i : EntryIndex) (s : State) :
    (s.reportViolation c i).pins = s.pins := rfl
@[simp] theorem State.reportViolation_pending (c : ChannelNo) (i : EntryIndex) (s : State) :
    (s.reportViolation c i).pending = s.pending := rfl

/-! ## Entries and channel records (R1, R49) -/

@[simp] theorem State.setEntry_su (i : EntryIndex) (e : Entry) (s : State) :
    (s.setEntry i e).su = s.su := rfl
@[simp] theorem State.setEntry_cc (i : EntryIndex) (e : Entry) (s : State) :
    (s.setEntry i e).cc = s.cc := rfl
@[simp] theorem State.setEntry_channels (i : EntryIndex) (e : Entry) (s : State) :
    (s.setEntry i e).channels = s.channels := rfl
@[simp] theorem State.setEntry_lhi (i : EntryIndex) (e : Entry) (s : State) :
    (s.setEntry i e).lhi = s.lhi := rfl
@[simp] theorem State.setEntry_ci (i : EntryIndex) (e : Entry) (s : State) :
    (s.setEntry i e).ci = s.ci := rfl
@[simp] theorem State.setEntry_cec (i : EntryIndex) (e : Entry) (s : State) :
    (s.setEntry i e).cec = s.cec := rfl
@[simp] theorem State.setEntry_tm (i : EntryIndex) (e : Entry) (s : State) :
    (s.setEntry i e).tm = s.tm := rfl
@[simp] theorem State.setEntry_ess (i : EntryIndex) (e : Entry) (s : State) :
    (s.setEntry i e).ess = s.ess := rfl
@[simp] theorem State.setEntry_ec (i : EntryIndex) (e : Entry) (s : State) :
    (s.setEntry i e).ec = s.ec := rfl
@[simp] theorem State.setEntry_pwr (i : EntryIndex) (e : Entry) (s : State) :
    (s.setEntry i e).pwr = s.pwr := rfl
@[simp] theorem State.setEntry_pins (i : EntryIndex) (e : Entry) (s : State) :
    (s.setEntry i e).pins = s.pins := rfl
@[simp] theorem State.setEntry_pending (i : EntryIndex) (e : Entry) (s : State) :
    (s.setEntry i e).pending = s.pending := rfl

@[simp] theorem State.setChannel_kt (c : ChannelNo) (ch : Channel) (s : State) :
    (s.setChannel c ch).kt = s.kt := rfl
@[simp] theorem State.setChannel_su (c : ChannelNo) (ch : Channel) (s : State) :
    (s.setChannel c ch).su = s.su := rfl
@[simp] theorem State.setChannel_cc (c : ChannelNo) (ch : Channel) (s : State) :
    (s.setChannel c ch).cc = s.cc := rfl
@[simp] theorem State.setChannel_lhi (c : ChannelNo) (ch : Channel) (s : State) :
    (s.setChannel c ch).lhi = s.lhi := rfl
@[simp] theorem State.setChannel_ci (c : ChannelNo) (ch : Channel) (s : State) :
    (s.setChannel c ch).ci = s.ci := rfl
@[simp] theorem State.setChannel_cec (c : ChannelNo) (ch : Channel) (s : State) :
    (s.setChannel c ch).cec = s.cec := rfl
@[simp] theorem State.setChannel_tm (c : ChannelNo) (ch : Channel) (s : State) :
    (s.setChannel c ch).tm = s.tm := rfl
@[simp] theorem State.setChannel_ess (c : ChannelNo) (ch : Channel) (s : State) :
    (s.setChannel c ch).ess = s.ess := rfl
@[simp] theorem State.setChannel_ec (c : ChannelNo) (ch : Channel) (s : State) :
    (s.setChannel c ch).ec = s.ec := rfl
@[simp] theorem State.setChannel_pwr (c : ChannelNo) (ch : Channel) (s : State) :
    (s.setChannel c ch).pwr = s.pwr := rfl
@[simp] theorem State.setChannel_pins (c : ChannelNo) (ch : Channel) (s : State) :
    (s.setChannel c ch).pins = s.pins := rfl
@[simp] theorem State.setChannel_pending (c : ChannelNo) (ch : Channel) (s : State) :
    (s.setChannel c ch).pending = s.pending := rfl

@[simp] theorem State.mapChannel_kt (c : ChannelNo) (f : Channel → Channel) (s : State) :
    (s.mapChannel c f).kt = s.kt := rfl
@[simp] theorem State.mapChannel_su (c : ChannelNo) (f : Channel → Channel) (s : State) :
    (s.mapChannel c f).su = s.su := rfl
@[simp] theorem State.mapChannel_cc (c : ChannelNo) (f : Channel → Channel) (s : State) :
    (s.mapChannel c f).cc = s.cc := rfl
@[simp] theorem State.mapChannel_lhi (c : ChannelNo) (f : Channel → Channel) (s : State) :
    (s.mapChannel c f).lhi = s.lhi := rfl
@[simp] theorem State.mapChannel_ci (c : ChannelNo) (f : Channel → Channel) (s : State) :
    (s.mapChannel c f).ci = s.ci := rfl
@[simp] theorem State.mapChannel_cec (c : ChannelNo) (f : Channel → Channel) (s : State) :
    (s.mapChannel c f).cec = s.cec := rfl
@[simp] theorem State.mapChannel_tm (c : ChannelNo) (f : Channel → Channel) (s : State) :
    (s.mapChannel c f).tm = s.tm := rfl
@[simp] theorem State.mapChannel_ess (c : ChannelNo) (f : Channel → Channel) (s : State) :
    (s.mapChannel c f).ess = s.ess := rfl
@[simp] theorem State.mapChannel_ec (c : ChannelNo) (f : Channel → Channel) (s : State) :
    (s.mapChannel c f).ec = s.ec := rfl
@[simp] theorem State.mapChannel_pwr (c : ChannelNo) (f : Channel → Channel) (s : State) :
    (s.mapChannel c f).pwr = s.pwr := rfl
@[simp] theorem State.mapChannel_pins (c : ChannelNo) (f : Channel → Channel) (s : State) :
    (s.mapChannel c f).pins = s.pins := rfl
@[simp] theorem State.mapChannel_pending (c : ChannelNo) (f : Channel → Channel) (s : State) :
    (s.mapChannel c f).pending = s.pending := rfl

/-! ## The Cipher Core (R34) -/

@[simp] theorem State.presentClaim_kt (job : Job) (s : State) :
    (s.presentClaim job).kt = s.kt := rfl
@[simp] theorem State.presentClaim_su (job : Job) (s : State) :
    (s.presentClaim job).su = s.su := rfl
@[simp] theorem State.presentClaim_channels (job : Job) (s : State) :
    (s.presentClaim job).channels = s.channels := rfl
@[simp] theorem State.presentClaim_lhi (job : Job) (s : State) :
    (s.presentClaim job).lhi = s.lhi := rfl
@[simp] theorem State.presentClaim_ci (job : Job) (s : State) :
    (s.presentClaim job).ci = s.ci := rfl
@[simp] theorem State.presentClaim_cec (job : Job) (s : State) :
    (s.presentClaim job).cec = s.cec := rfl
@[simp] theorem State.presentClaim_tm (job : Job) (s : State) :
    (s.presentClaim job).tm = s.tm := rfl
@[simp] theorem State.presentClaim_ess (job : Job) (s : State) :
    (s.presentClaim job).ess = s.ess := rfl
@[simp] theorem State.presentClaim_ec (job : Job) (s : State) :
    (s.presentClaim job).ec = s.ec := rfl
@[simp] theorem State.presentClaim_pwr (job : Job) (s : State) :
    (s.presentClaim job).pwr = s.pwr := rfl
@[simp] theorem State.presentClaim_pins (job : Job) (s : State) :
    (s.presentClaim job).pins = s.pins := rfl
@[simp] theorem State.presentClaim_pending (job : Job) (s : State) :
    (s.presentClaim job).pending = s.pending := rfl

/-! ## The Cipher Core (R32, R33, R35, R36) -/

/-- An idle core grants at once (R35). -/
theorem CipherCore.present_idle (job : Job) {cc : CipherCore} (h : cc.current = none) :
    cc.present job = .grant job cc.waiting := by
  simp [CipherCore.present, h]

/-- A busy core lets the claim wait (R35). -/
theorem CipherCore.present_busy (job : Job) {cc : CipherCore} {claim : Claim}
    (h : cc.current = some claim) :
    cc.present job = { cc with waiting := cc.waiting ++ [job.waiting] } := by
  simp [CipherCore.present, h]

/-- No claim of the Service Unit waits with its key values (R32). -/
theorem Job.waiting_held {job held : Job} (h : job.waiting = .held held) :
    held.claimant ≠ .su := by
  unfold Job.waiting at h
  split at h
  · cases h
  all_goals
    injection h with h
    subst h
    simp_all

/-- All that the arbiter can do: leave the core as it stands, or grant one waiting claim to a core that
no claim holds (R35). -/
theorem CipherCore.arbitrate_cases (record : Option InService) (cc : CipherCore) :
    cc.arbitrate record = cc ∨ ∃ w job, cc.current = none ∧ nextClaim cc.waiting = some w ∧
      w.job? record = some job ∧ cc.arbitrate record = .grant job (cc.waiting.erase w) := by
  unfold CipherCore.arbitrate
  split
  · exact .inl rfl
  · rename_i idle
    split
    · exact .inl rfl
    · rename_i w found
      split
      · exact .inl rfl
      · rename_i job formed
        exact .inr ⟨w, job, idle, found, formed, rfl⟩

/-! ## Presence and the port (R92, R93, R101 to R103) -/

@[simp] theorem State.shrinkPresence_kt (l : List CustodianNo) (s : State) :
    (s.shrinkPresence l).kt = s.kt := by
  unfold State.shrinkPresence
  dsimp only
  split <;> rfl
@[simp] theorem State.shrinkPresence_su (l : List CustodianNo) (s : State) :
    (s.shrinkPresence l).su = s.su := by
  unfold State.shrinkPresence
  dsimp only
  split <;> rfl
@[simp] theorem State.shrinkPresence_cc (l : List CustodianNo) (s : State) :
    (s.shrinkPresence l).cc = s.cc := by
  unfold State.shrinkPresence
  dsimp only
  split <;> rfl
@[simp] theorem State.shrinkPresence_channels (l : List CustodianNo) (s : State) :
    (s.shrinkPresence l).channels = s.channels := by
  unfold State.shrinkPresence
  dsimp only
  split <;> rfl
@[simp] theorem State.shrinkPresence_lhi (l : List CustodianNo) (s : State) :
    (s.shrinkPresence l).lhi = s.lhi := by
  unfold State.shrinkPresence
  dsimp only
  split <;> rfl
@[simp] theorem State.shrinkPresence_tm (l : List CustodianNo) (s : State) :
    (s.shrinkPresence l).tm = s.tm := by
  unfold State.shrinkPresence
  dsimp only
  split <;> rfl
@[simp] theorem State.shrinkPresence_ess (l : List CustodianNo) (s : State) :
    (s.shrinkPresence l).ess = s.ess := by
  unfold State.shrinkPresence
  dsimp only
  split <;> rfl
@[simp] theorem State.shrinkPresence_ec (l : List CustodianNo) (s : State) :
    (s.shrinkPresence l).ec = s.ec := by
  unfold State.shrinkPresence
  dsimp only
  split <;> rfl
@[simp] theorem State.shrinkPresence_pwr (l : List CustodianNo) (s : State) :
    (s.shrinkPresence l).pwr = s.pwr := by
  unfold State.shrinkPresence
  dsimp only
  split <;> rfl
@[simp] theorem State.shrinkPresence_pins (l : List CustodianNo) (s : State) :
    (s.shrinkPresence l).pins = s.pins := by
  unfold State.shrinkPresence
  dsimp only
  split <;> rfl
@[simp] theorem State.shrinkPresence_pending (l : List CustodianNo) (s : State) :
    (s.shrinkPresence l).pending = s.pending := by
  unfold State.shrinkPresence
  dsimp only
  split <;> rfl

@[simp] theorem State.joinPresence_kt (c : CustodianNo) (s : State) :
    (s.joinPresence c).kt = s.kt := rfl
@[simp] theorem State.joinPresence_su (c : CustodianNo) (s : State) :
    (s.joinPresence c).su = s.su := rfl
@[simp] theorem State.joinPresence_cc (c : CustodianNo) (s : State) :
    (s.joinPresence c).cc = s.cc := rfl
@[simp] theorem State.joinPresence_channels (c : CustodianNo) (s : State) :
    (s.joinPresence c).channels = s.channels := rfl
@[simp] theorem State.joinPresence_lhi (c : CustodianNo) (s : State) :
    (s.joinPresence c).lhi = s.lhi := rfl
@[simp] theorem State.joinPresence_cec (c : CustodianNo) (s : State) :
    (s.joinPresence c).cec = s.cec := rfl
@[simp] theorem State.joinPresence_tm (c : CustodianNo) (s : State) :
    (s.joinPresence c).tm = s.tm := rfl
@[simp] theorem State.joinPresence_ess (c : CustodianNo) (s : State) :
    (s.joinPresence c).ess = s.ess := rfl
@[simp] theorem State.joinPresence_ec (c : CustodianNo) (s : State) :
    (s.joinPresence c).ec = s.ec := rfl
@[simp] theorem State.joinPresence_pwr (c : CustodianNo) (s : State) :
    (s.joinPresence c).pwr = s.pwr := rfl
@[simp] theorem State.joinPresence_pins (c : CustodianNo) (s : State) :
    (s.joinPresence c).pins = s.pins := rfl
@[simp] theorem State.joinPresence_pending (c : CustodianNo) (s : State) :
    (s.joinPresence c).pending = s.pending := rfl

@[simp] theorem State.expireWindow_kt (s : State) :
    s.expireWindow.kt = s.kt := by
  unfold State.expireWindow
  simp
@[simp] theorem State.expireWindow_su (s : State) :
    s.expireWindow.su = s.su := by
  unfold State.expireWindow
  simp
@[simp] theorem State.expireWindow_cc (s : State) :
    s.expireWindow.cc = s.cc := by
  unfold State.expireWindow
  simp
@[simp] theorem State.expireWindow_channels (s : State) :
    s.expireWindow.channels = s.channels := by
  unfold State.expireWindow
  simp
@[simp] theorem State.expireWindow_lhi (s : State) :
    s.expireWindow.lhi = s.lhi := by
  unfold State.expireWindow
  simp
@[simp] theorem State.expireWindow_tm (s : State) :
    s.expireWindow.tm = s.tm := by
  unfold State.expireWindow
  simp
@[simp] theorem State.expireWindow_ess (s : State) :
    s.expireWindow.ess = s.ess := by
  unfold State.expireWindow
  simp
@[simp] theorem State.expireWindow_ec (s : State) :
    s.expireWindow.ec = s.ec := by
  unfold State.expireWindow
  simp
@[simp] theorem State.expireWindow_pwr (s : State) :
    s.expireWindow.pwr = s.pwr := by
  unfold State.expireWindow
  simp
@[simp] theorem State.expireWindow_pins (s : State) :
    s.expireWindow.pins = s.pins := by
  unfold State.expireWindow
  simp
@[simp] theorem State.expireWindow_pending (s : State) :
    s.expireWindow.pending = s.pending := by
  unfold State.expireWindow
  simp

@[simp] theorem State.windowAtZero_kt (s : State) :
    s.windowAtZero.kt = s.kt := by
  unfold State.windowAtZero
  split <;> simp
@[simp] theorem State.windowAtZero_su (s : State) :
    s.windowAtZero.su = s.su := by
  unfold State.windowAtZero
  split <;> simp
@[simp] theorem State.windowAtZero_cc (s : State) :
    s.windowAtZero.cc = s.cc := by
  unfold State.windowAtZero
  split <;> simp
@[simp] theorem State.windowAtZero_channels (s : State) :
    s.windowAtZero.channels = s.channels := by
  unfold State.windowAtZero
  split <;> simp
@[simp] theorem State.windowAtZero_lhi (s : State) :
    s.windowAtZero.lhi = s.lhi := by
  unfold State.windowAtZero
  split <;> simp
@[simp] theorem State.windowAtZero_tm (s : State) :
    s.windowAtZero.tm = s.tm := by
  unfold State.windowAtZero
  split <;> simp
@[simp] theorem State.windowAtZero_ess (s : State) :
    s.windowAtZero.ess = s.ess := by
  unfold State.windowAtZero
  split <;> simp
@[simp] theorem State.windowAtZero_ec (s : State) :
    s.windowAtZero.ec = s.ec := by
  unfold State.windowAtZero
  split <;> simp
@[simp] theorem State.windowAtZero_pwr (s : State) :
    s.windowAtZero.pwr = s.pwr := by
  unfold State.windowAtZero
  split <;> simp
@[simp] theorem State.windowAtZero_pins (s : State) :
    s.windowAtZero.pins = s.pins := by
  unfold State.windowAtZero
  split <;> simp
@[simp] theorem State.windowAtZero_pending (s : State) :
    s.windowAtZero.pending = s.pending := by
  unfold State.windowAtZero
  split <;> simp

@[simp] theorem State.tickWindow_kt (s : State) :
    s.tickWindow.kt = s.kt := by
  unfold State.tickWindow
  dsimp only
  split
  · split <;> simp
  · rfl
@[simp] theorem State.tickWindow_su (s : State) :
    s.tickWindow.su = s.su := by
  unfold State.tickWindow
  dsimp only
  split
  · split <;> simp
  · rfl
@[simp] theorem State.tickWindow_cc (s : State) :
    s.tickWindow.cc = s.cc := by
  unfold State.tickWindow
  dsimp only
  split
  · split <;> simp
  · rfl
@[simp] theorem State.tickWindow_channels (s : State) :
    s.tickWindow.channels = s.channels := by
  unfold State.tickWindow
  dsimp only
  split
  · split <;> simp
  · rfl
@[simp] theorem State.tickWindow_lhi (s : State) :
    s.tickWindow.lhi = s.lhi := by
  unfold State.tickWindow
  dsimp only
  split
  · split <;> simp
  · rfl
@[simp] theorem State.tickWindow_tm (s : State) :
    s.tickWindow.tm = s.tm := by
  unfold State.tickWindow
  dsimp only
  split
  · split <;> simp
  · rfl
@[simp] theorem State.tickWindow_ess (s : State) :
    s.tickWindow.ess = s.ess := by
  unfold State.tickWindow
  dsimp only
  split
  · split <;> simp
  · rfl
@[simp] theorem State.tickWindow_ec (s : State) :
    s.tickWindow.ec = s.ec := by
  unfold State.tickWindow
  dsimp only
  split
  · split <;> simp
  · rfl
@[simp] theorem State.tickWindow_pwr (s : State) :
    s.tickWindow.pwr = s.pwr := by
  unfold State.tickWindow
  dsimp only
  split
  · split <;> simp
  · rfl
@[simp] theorem State.tickWindow_pins (s : State) :
    s.tickWindow.pins = s.pins := by
  unfold State.tickWindow
  dsimp only
  split
  · split <;> simp
  · rfl
@[simp] theorem State.tickWindow_pending (s : State) :
    s.tickWindow.pending = s.pending := by
  unfold State.tickWindow
  dsimp only
  split
  · split <;> simp
  · rfl

@[simp] theorem State.finish_kt (status : ConsoleStatus) (body : List Byte) (s : State) :
    (s.finish status body).kt = s.kt := by
  unfold State.finish
  dsimp only
  split <;> simp
@[simp] theorem State.finish_su (status : ConsoleStatus) (body : List Byte) (s : State) :
    (s.finish status body).su = s.su := by
  unfold State.finish
  dsimp only
  split <;> simp
@[simp] theorem State.finish_cc (status : ConsoleStatus) (body : List Byte) (s : State) :
    (s.finish status body).cc = s.cc := by
  unfold State.finish
  dsimp only
  split <;> simp
@[simp] theorem State.finish_channels (status : ConsoleStatus) (body : List Byte) (s : State) :
    (s.finish status body).channels = s.channels := by
  unfold State.finish
  dsimp only
  split <;> simp
@[simp] theorem State.finish_lhi (status : ConsoleStatus) (body : List Byte) (s : State) :
    (s.finish status body).lhi = s.lhi := by
  unfold State.finish
  dsimp only
  split <;> simp
@[simp] theorem State.finish_tm (status : ConsoleStatus) (body : List Byte) (s : State) :
    (s.finish status body).tm = s.tm := by
  unfold State.finish
  dsimp only
  split <;> simp
@[simp] theorem State.finish_ess (status : ConsoleStatus) (body : List Byte) (s : State) :
    (s.finish status body).ess = s.ess := by
  unfold State.finish
  dsimp only
  split <;> simp
@[simp] theorem State.finish_ec (status : ConsoleStatus) (body : List Byte) (s : State) :
    (s.finish status body).ec = s.ec := by
  unfold State.finish
  dsimp only
  split <;> simp
@[simp] theorem State.finish_pwr (status : ConsoleStatus) (body : List Byte) (s : State) :
    (s.finish status body).pwr = s.pwr := by
  unfold State.finish
  dsimp only
  split <;> simp
@[simp] theorem State.finish_pins (status : ConsoleStatus) (body : List Byte) (s : State) :
    (s.finish status body).pins = s.pins := by
  unfold State.finish
  dsimp only
  split <;> simp
@[simp] theorem State.finish_pending (status : ConsoleStatus) (body : List Byte) (s : State) :
    (s.finish status body).pending = s.pending := by
  unfold State.finish
  dsimp only
  split <;> simp

@[simp] theorem State.refuse_kt (status : ConsoleStatus) (s : State) :
    (s.refuse status).kt = s.kt := by
  unfold State.refuse
  simp
@[simp] theorem State.refuse_su (status : ConsoleStatus) (s : State) :
    (s.refuse status).su = s.su := by
  unfold State.refuse
  simp
@[simp] theorem State.refuse_cc (status : ConsoleStatus) (s : State) :
    (s.refuse status).cc = s.cc := by
  unfold State.refuse
  simp
@[simp] theorem State.refuse_channels (status : ConsoleStatus) (s : State) :
    (s.refuse status).channels = s.channels := by
  unfold State.refuse
  simp
@[simp] theorem State.refuse_lhi (status : ConsoleStatus) (s : State) :
    (s.refuse status).lhi = s.lhi := by
  unfold State.refuse
  simp
@[simp] theorem State.refuse_tm (status : ConsoleStatus) (s : State) :
    (s.refuse status).tm = s.tm := by
  unfold State.refuse
  simp
@[simp] theorem State.refuse_ess (status : ConsoleStatus) (s : State) :
    (s.refuse status).ess = s.ess := by
  unfold State.refuse
  simp
@[simp] theorem State.refuse_ec (status : ConsoleStatus) (s : State) :
    (s.refuse status).ec = s.ec := by
  unfold State.refuse
  simp
@[simp] theorem State.refuse_pwr (status : ConsoleStatus) (s : State) :
    (s.refuse status).pwr = s.pwr := by
  unfold State.refuse
  simp
@[simp] theorem State.refuse_pins (status : ConsoleStatus) (s : State) :
    (s.refuse status).pins = s.pins := by
  unfold State.refuse
  simp
@[simp] theorem State.refuse_pending (status : ConsoleStatus) (s : State) :
    (s.refuse status).pending = s.pending := by
  unfold State.refuse
  simp

@[simp] theorem State.accept_kt (c : Command) (s : State) :
    (s.accept c).kt = s.kt := rfl
@[simp] theorem State.accept_su (c : Command) (s : State) :
    (s.accept c).su = s.su := rfl
@[simp] theorem State.accept_cc (c : Command) (s : State) :
    (s.accept c).cc = s.cc := rfl
@[simp] theorem State.accept_channels (c : Command) (s : State) :
    (s.accept c).channels = s.channels := rfl
@[simp] theorem State.accept_lhi (c : Command) (s : State) :
    (s.accept c).lhi = s.lhi := rfl
@[simp] theorem State.accept_cec (c : Command) (s : State) :
    (s.accept c).cec = s.cec := rfl
@[simp] theorem State.accept_tm (c : Command) (s : State) :
    (s.accept c).tm = s.tm := rfl
@[simp] theorem State.accept_ess (c : Command) (s : State) :
    (s.accept c).ess = s.ess := rfl
@[simp] theorem State.accept_ec (c : Command) (s : State) :
    (s.accept c).ec = s.ec := rfl
@[simp] theorem State.accept_pwr (c : Command) (s : State) :
    (s.accept c).pwr = s.pwr := rfl
@[simp] theorem State.accept_pins (c : Command) (s : State) :
    (s.accept c).pins = s.pins := rfl
@[simp] theorem State.accept_pending (c : Command) (s : State) :
    (s.accept c).pending = s.pending := rfl

@[simp] theorem State.setCustodian_kt (c : CustodianNo) (r : Custodian) (s : State) :
    (s.setCustodian c r).kt = s.kt := rfl
@[simp] theorem State.setCustodian_su (c : CustodianNo) (r : Custodian) (s : State) :
    (s.setCustodian c r).su = s.su := rfl
@[simp] theorem State.setCustodian_cc (c : CustodianNo) (r : Custodian) (s : State) :
    (s.setCustodian c r).cc = s.cc := rfl
@[simp] theorem State.setCustodian_channels (c : CustodianNo) (r : Custodian) (s : State) :
    (s.setCustodian c r).channels = s.channels := rfl
@[simp] theorem State.setCustodian_lhi (c : CustodianNo) (r : Custodian) (s : State) :
    (s.setCustodian c r).lhi = s.lhi := rfl
@[simp] theorem State.setCustodian_cec (c : CustodianNo) (r : Custodian) (s : State) :
    (s.setCustodian c r).cec = s.cec := rfl
@[simp] theorem State.setCustodian_tm (c : CustodianNo) (r : Custodian) (s : State) :
    (s.setCustodian c r).tm = s.tm := rfl
@[simp] theorem State.setCustodian_ess (c : CustodianNo) (r : Custodian) (s : State) :
    (s.setCustodian c r).ess = s.ess := rfl
@[simp] theorem State.setCustodian_ec (c : CustodianNo) (r : Custodian) (s : State) :
    (s.setCustodian c r).ec = s.ec := rfl
@[simp] theorem State.setCustodian_pwr (c : CustodianNo) (r : Custodian) (s : State) :
    (s.setCustodian c r).pwr = s.pwr := rfl
@[simp] theorem State.setCustodian_pins (c : CustodianNo) (r : Custodian) (s : State) :
    (s.setCustodian c r).pins = s.pins := rfl
@[simp] theorem State.setCustodian_pending (c : CustodianNo) (r : Custodian) (s : State) :
    (s.setCustodian c r).pending = s.pending := rfl

/-! ## Learning (R149 to R151) -/

@[simp] theorem State.failLearning_kt (s : State) :
    s.failLearning.kt = s.kt := by
  unfold State.failLearning
  simp
@[simp] theorem State.failLearning_su (s : State) :
    s.failLearning.su = s.su := by
  unfold State.failLearning
  simp
@[simp] theorem State.failLearning_cc (s : State) :
    s.failLearning.cc = s.cc := by
  unfold State.failLearning
  simp
@[simp] theorem State.failLearning_channels (s : State) :
    s.failLearning.channels = s.channels := by
  unfold State.failLearning
  simp
@[simp] theorem State.failLearning_lhi (s : State) :
    s.failLearning.lhi = s.lhi := by
  unfold State.failLearning
  simp
@[simp] theorem State.failLearning_cec (s : State) :
    s.failLearning.cec = s.cec := by
  unfold State.failLearning
  simp
@[simp] theorem State.failLearning_ess (s : State) :
    s.failLearning.ess = s.ess := by
  unfold State.failLearning
  simp
@[simp] theorem State.failLearning_ec (s : State) :
    s.failLearning.ec = s.ec := by
  unfold State.failLearning
  simp
@[simp] theorem State.failLearning_pwr (s : State) :
    s.failLearning.pwr = s.pwr := by
  unfold State.failLearning
  simp
@[simp] theorem State.failLearning_pins (s : State) :
    s.failLearning.pins = s.pins := by
  unfold State.failLearning
  simp
@[simp] theorem State.failLearning_pending (s : State) :
    s.failLearning.pending = s.pending := by
  unfold State.failLearning
  simp

@[simp] theorem State.learnReading_kt (m : Mesh) (x : Nat) (s : State) :
    (s.learnReading m x).kt = s.kt := by
  unfold State.learnReading
  dsimp only
  split
  · rfl
  · split
    · rfl
    · split
      · simp
      · split <;> simp
@[simp] theorem State.learnReading_su (m : Mesh) (x : Nat) (s : State) :
    (s.learnReading m x).su = s.su := by
  unfold State.learnReading
  dsimp only
  split
  · rfl
  · split
    · rfl
    · split
      · simp
      · split <;> simp
@[simp] theorem State.learnReading_cc (m : Mesh) (x : Nat) (s : State) :
    (s.learnReading m x).cc = s.cc := by
  unfold State.learnReading
  dsimp only
  split
  · rfl
  · split
    · rfl
    · split
      · simp
      · split <;> simp
@[simp] theorem State.learnReading_channels (m : Mesh) (x : Nat) (s : State) :
    (s.learnReading m x).channels = s.channels := by
  unfold State.learnReading
  dsimp only
  split
  · rfl
  · split
    · rfl
    · split
      · simp
      · split <;> simp
@[simp] theorem State.learnReading_lhi (m : Mesh) (x : Nat) (s : State) :
    (s.learnReading m x).lhi = s.lhi := by
  unfold State.learnReading
  dsimp only
  split
  · rfl
  · split
    · rfl
    · split
      · simp
      · split <;> simp
@[simp] theorem State.learnReading_cec (m : Mesh) (x : Nat) (s : State) :
    (s.learnReading m x).cec = s.cec := by
  unfold State.learnReading
  dsimp only
  split
  · rfl
  · split
    · rfl
    · split
      · simp
      · split <;> simp
@[simp] theorem State.learnReading_ess (m : Mesh) (x : Nat) (s : State) :
    (s.learnReading m x).ess = s.ess := by
  unfold State.learnReading
  dsimp only
  split
  · rfl
  · split
    · rfl
    · split
      · simp
      · split <;> simp
@[simp] theorem State.learnReading_ec (m : Mesh) (x : Nat) (s : State) :
    (s.learnReading m x).ec = s.ec := by
  unfold State.learnReading
  dsimp only
  split
  · rfl
  · split
    · rfl
    · split
      · simp
      · split <;> simp
@[simp] theorem State.learnReading_pwr (m : Mesh) (x : Nat) (s : State) :
    (s.learnReading m x).pwr = s.pwr := by
  unfold State.learnReading
  dsimp only
  split
  · rfl
  · split
    · rfl
    · split
      · simp
      · split <;> simp
@[simp] theorem State.learnReading_pins (m : Mesh) (x : Nat) (s : State) :
    (s.learnReading m x).pins = s.pins := by
  unfold State.learnReading
  dsimp only
  split
  · rfl
  · split
    · rfl
    · split
      · simp
      · split <;> simp
@[simp] theorem State.learnReading_pending (m : Mesh) (x : Nat) (s : State) :
    (s.learnReading m x).pending = s.pending := by
  unfold State.learnReading
  dsimp only
  split
  · rfl
  · split
    · rfl
    · split
      · simp
      · split <;> simp

@[simp] theorem State.beginLearning_kt (s : State) :
    s.beginLearning.kt = s.kt := by
  unfold State.beginLearning
  dsimp only
  split <;> simp
@[simp] theorem State.beginLearning_su (s : State) :
    s.beginLearning.su = s.su := by
  unfold State.beginLearning
  dsimp only
  split <;> simp
@[simp] theorem State.beginLearning_cc (s : State) :
    s.beginLearning.cc = s.cc := by
  unfold State.beginLearning
  dsimp only
  split <;> simp
@[simp] theorem State.beginLearning_channels (s : State) :
    s.beginLearning.channels = s.channels := by
  unfold State.beginLearning
  dsimp only
  split <;> simp
@[simp] theorem State.beginLearning_lhi (s : State) :
    s.beginLearning.lhi = s.lhi := by
  unfold State.beginLearning
  dsimp only
  split <;> simp
@[simp] theorem State.beginLearning_cec (s : State) :
    s.beginLearning.cec = s.cec := by
  unfold State.beginLearning
  dsimp only
  split <;> simp
@[simp] theorem State.beginLearning_ess (s : State) :
    s.beginLearning.ess = s.ess := by
  unfold State.beginLearning
  dsimp only
  split <;> simp
@[simp] theorem State.beginLearning_ec (s : State) :
    s.beginLearning.ec = s.ec := by
  unfold State.beginLearning
  dsimp only
  split <;> simp
@[simp] theorem State.beginLearning_pwr (s : State) :
    s.beginLearning.pwr = s.pwr := by
  unfold State.beginLearning
  dsimp only
  split <;> simp
@[simp] theorem State.beginLearning_pins (s : State) :
    s.beginLearning.pins = s.pins := by
  unfold State.beginLearning
  dsimp only
  split <;> simp
@[simp] theorem State.beginLearning_pending (s : State) :
    s.beginLearning.pending = s.pending := by
  unfold State.beginLearning
  dsimp only
  split <;> simp

/-! ## The count of a conversion (R138) -/

theorem Conversion.reading_le (cv : Conversion) (crossing : Nat) :
    cv.reading crossing ≤ 2 * cv.runUpCount :=
  Nat.min_le_right _ _

/-- A conversion's count is not below the one that its de-integration has reached. -/
theorem Conversion.reached_le_reading (cv : Conversion) (crossing : Nat)
    (h : cv.reached ≤ 2 * cv.runUpCount) : cv.reached ≤ cv.reading crossing :=
  Nat.le_min.mpr ⟨Nat.le_max_left _ _, h⟩

/-- De-integration that has counted to 2N yields 2N, whatever crossing is named. -/
theorem Conversion.reading_full (cv : Conversion) (crossing : Nat)
    (h : cv.reached = 2 * cv.runUpCount) : cv.reading crossing = 2 * cv.runUpCount :=
  Nat.min_eq_right (h ▸ Nat.le_max_left _ _)

/-! ## The results of a claim (R36, R38) -/

/-- A DERIVE's results are W_i and C_i of each block in turn; no K_i is among them (R38). -/
theorem Job.results_derive (master transport : Key) (blocks : List Block) :
    (Job.derive master transport blocks).results = blocks.flatMap fun d =>
      [.block (wrappedKey transport (cardKey master d)), .check (cardKeyCheck (cardKey master d))] := by
  induction blocks with
  | nil => rfl
  | cons d rest ih =>
    simp only [Job.results, Job.operationResults, List.flatMap_cons, List.filterMap_append] at ih ⊢
    rw [ih]
    rfl

/-- The results of a DERIVE for block i stand at places 2i and 2i + 1 (R38). -/
theorem Job.results_derive_getElem? (master transport : Key) (blocks : List Block) (i : Nat) :
    (Job.derive master transport blocks).results[2 * i]? =
        blocks[i]?.map (fun d => .block (wrappedKey transport (cardKey master d))) ∧
      (Job.derive master transport blocks).results[2 * i + 1]? =
        blocks[i]?.map fun d => .check (cardKeyCheck (cardKey master d)) := by
  rw [Job.results_derive]
  induction blocks generalizing i with
  | nil => simp
  | cons d rest ih =>
    cases i with
    | zero => simp
    | succ i =>
      have := ih i
      simpa [Nat.mul_succ, List.getElem?_cons_succ] using this

@[simp] theorem Job.results_respond (key : Key) (challenge : Block) :
    (Job.respond key challenge).results = [.block (encrypt256 key challenge)] := rfl

@[simp] theorem Job.results_component (key : Key) (block1 block2 : Block) :
    (Job.component key block1 block2).results =
      [.block (decrypt256 key block1), .block (decrypt256 key block2),
       .check (keyCheck (decryptComponent key block1 block2))] := rfl

@[simp] theorem Job.results_commit (value : Key) :
    (Job.commit value).results = [.check (keyCheck value)] := rfl

@[simp] theorem Job.results_checkTransport (value : Key) :
    (Job.checkTransport value).results = [.check (keyCheck value)] := rfl

@[simp] theorem Job.results_checkEntry (current : Key) (previous : Option Key) :
    (Job.checkEntry current previous).results =
      .check (keyCheck current) :: previous.toList.map fun v => .check (keyCheck v) := by
  cases previous <;> rfl

end Sys2Proof.Machine
end

