-- ==== Sys2Proof/Laws/Claims.lean ====
section
/-! SUPPORT. What each operation on the Cipher Core does to the claims of the Custodian Interface and the
Ceremony Controller that stand there: one lemma per operation. -/

namespace Sys2Proof.Machine

@[simp] theorem CipherCore.consoleClaims_idle : CipherCore.idle.consoleClaims = [] := rfl

/-- A claim presented joins those that stand, if it is one of the console's (R35). -/
theorem CipherCore.consoleClaims_present (job : Job) (cc : CipherCore) :
    (cc.present job).consoleClaims.Perm
      ((if job.custodianSide then [job] else []) ++ cc.consoleClaims) := by
  unfold CipherCore.present
  split
  · rename_i h
    simp only [CipherCore.consoleClaims, CipherCore.grant, h]
    cases q : job.custodianSide <;> simp [q]
  · rename_i claim h
    have w : job.waiting.held?.toList.filter Job.custodianSide =
        if job.custodianSide then [job] else [] := by
      cases job <;> rfl
    have e (l : List WaitingClaim) : ((l ++ [job.waiting]).filterMap WaitingClaim.held?) =
        l.filterMap WaitingClaim.held? ++ job.waiting.held?.toList := by
      simp only [List.filterMap_append]
      cases q : job.waiting.held? <;> simp [q]
    simp only [CipherCore.consoleClaims, h, e, ← List.append_assoc]
    rw [List.filter_append, w]
    exact List.perm_append_comm

/-- An operation changes no claim (R33). -/
@[simp] theorem CipherCore.consoleClaims_operate (cc : CipherCore) :
    cc.operate.consoleClaims = cc.consoleClaims := by
  unfold CipherCore.operate
  split
  · rfl
  · dsimp only
    split
    · simp_all [CipherCore.consoleClaims]
    · rfl

/-- The claim that leaves is the current one (R36). -/
theorem CipherCore.consoleClaims_release (cc : CipherCore) (claim : Claim)
    (h : cc.current = some claim) :
    cc.consoleClaims =
      (if claim.job.custodianSide then [claim.job] else []) ++ cc.release.consoleClaims := by
  cases q : claim.job.custodianSide <;> simp [CipherCore.consoleClaims, CipherCore.release, h, q]

/-- Who is granted was waiting: the arbiter neither adds a claim nor loses one (R35). -/
theorem CipherCore.consoleClaims_arbitrate (record : Option InService) (cc : CipherCore) :
    (cc.arbitrate record).consoleClaims.Perm cc.consoleClaims := by
  unfold CipherCore.arbitrate
  split
  · rfl
  · rename_i hc
    split
    · rfl
    · rename_i w hw
      have mem : w ∈ cc.waiting := by
        unfold nextClaim at hw
        split at hw
        · cases hw
          exact List.mem_of_find?_eq_some ‹_›
        · exact List.mem_of_head? hw
      have p := (((List.perm_cons_erase mem).symm.filterMap WaitingClaim.held?)).filter Job.custodianSide
      split
      · rfl
      · rename_i job hj
        cases w with
        | service =>
          have : job.custodianSide = false := by
            simp only [WaitingClaim.job?, Option.map_eq_some_iff] at hj
            obtain ⟨r, -, rfl⟩ := hj
            rfl
          have e : (WaitingClaim.service :: cc.waiting.erase .service).filterMap WaitingClaim.held? =
              (cc.waiting.erase .service).filterMap WaitingClaim.held? := rfl
          rw [e] at p
          simpa [CipherCore.consoleClaims, CipherCore.grant, hc, this] using p
        | held job' =>
          cases hj
          have e : (WaitingClaim.held job :: cc.waiting.erase (.held job)).filterMap
              WaitingClaim.held? =
              job :: (cc.waiting.erase (.held job)).filterMap WaitingClaim.held? := rfl
          rw [e] at p
          simpa [CipherCore.consoleClaims, CipherCore.grant, hc, List.filter_cons] using p

end Sys2Proof.Machine
end

