-- ==== Sys2Proof/Laws/Tables.lean ====
section
/-! SUPPORT. Reading the tables after a write: entries, channel records, custodian records, event
flags, and what the port holds after each operation on it. -/

namespace Sys2Proof.Machine

/-! ## Entries (R1) -/

theorem State.entry_congr {s t : State} (h : t.kt = s.kt) (i : EntryIndex) :
    t.entry i = s.entry i := by
  simp [State.entry, h]

theorem State.entry_setEntry (i j : EntryIndex) (e : Entry) (s : State) :
    (s.setEntry i e).entry j = if i = j then e else s.entry j := by
  simp only [State.entry, State.setEntry, State.withKt_kt, Fin.getElem_fin, Vector.getElem_set]
  simp [Fin.ext_iff]

@[simp] theorem State.entry_setEntry_self (i : EntryIndex) (e : Entry) (s : State) :
    (s.setEntry i e).entry i = e := by
  simp [State.entry_setEntry]

theorem State.entry_setEntry_other {i j : EntryIndex} (h : i ≠ j) (e : Entry) (s : State) :
    (s.setEntry i e).entry j = s.entry j := by
  simp [State.entry_setEntry, h]

@[simp] theorem State.setEntry_threshold (i : EntryIndex) (e : Entry) (s : State) :
    (s.setEntry i e).kt.threshold = s.kt.threshold :=
  rfl

/-! ## Channel records (R49) -/

theorem State.channel_congr {s t : State} (h : t.channels = s.channels) (c : ChannelNo) :
    t.channel c = s.channel c := by
  simp [State.channel, h]

theorem State.channel_setChannel (i j : ChannelNo) (ch : Channel) (s : State) :
    (s.setChannel i ch).channel j = if i = j then ch else s.channel j := by
  simp only [State.channel, State.setChannel, State.withChannels_channels, Fin.getElem_fin,
    Vector.getElem_set]
  simp [Fin.ext_iff]

@[simp] theorem State.channel_setChannel_self (i : ChannelNo) (ch : Channel) (s : State) :
    (s.setChannel i ch).channel i = ch := by
  simp [State.channel_setChannel]

theorem State.channel_setChannel_other {i j : ChannelNo} (h : i ≠ j) (ch : Channel) (s : State) :
    (s.setChannel i ch).channel j = s.channel j := by
  simp [State.channel_setChannel, h]

theorem State.channel_mapChannel (i j : ChannelNo) (f : Channel → Channel) (s : State) :
    (s.mapChannel i f).channel j = if i = j then f (s.channel i) else s.channel j := by
  simp [State.mapChannel, State.channel_setChannel]

/-! ## Custodian records (R94) -/

theorem State.custodian_congr {s t : State} (h : t.ci.custodians = s.ci.custodians)
    (c : CustodianNo) : t.custodian c = s.custodian c := by
  simp [State.custodian, h]

theorem State.custodian_setCustodian (i j : CustodianNo) (r : Custodian) (s : State) :
    (s.setCustodian i r).custodian j = if i = j then r else s.custodian j := by
  simp only [State.custodian, State.setCustodian, State.withCi_ci, Fin.getElem_fin,
    Vector.getElem_set]
  simp [Fin.ext_iff]

/-! ## Events (R105) -/

/-- Setting one flag sets its bit and leaves every other bit. -/
theorem setFlag_getLsbD (e : Event) (flags : BitVec 11) (n : Nat) (h : n < 11) :
    (setFlag e flags).getLsbD n = (flags.getLsbD n || decide (n = e.bit)) := by
  cases e <;> interval_cases n <;> simp [setFlag, Event.bit]

@[simp] theorem State.flag_raiseEvent_self (e : Event) (s : State) :
    (s.raiseEvent e).flag e = true := by
  have : e.bit < 11 := by cases e <;> decide
  simp [State.flag, State.raiseEvent, setFlag_getLsbD e s.ci.flags e.bit this]

/-- A flag already set stays set. -/
theorem State.flag_raiseEvent_mono (e e' : Event) (s : State) (h : s.flag e' = true) :
    (s.raiseEvent e).flag e' = true := by
  have hb : e'.bit < 11 := by cases e' <;> decide
  simp only [State.flag] at h
  simp [State.flag, State.raiseEvent, setFlag_getLsbD e s.ci.flags e'.bit hb, h]

@[simp] theorem State.raiseEvent_port (e : Event) (s : State) :
    (s.raiseEvent e).ci.port = s.ci.port :=
  rfl

@[simp] theorem State.raiseIf_port (b : Bool) (e : Event) (s : State) :
    (s.raiseIf b e).ci.port = s.ci.port := by
  unfold State.raiseIf
  split <;> rfl

/-! ## The port and presence (R93, R101 to R103) -/

@[simp] theorem State.shrinkPresence_port (l : List CustodianNo) (s : State) :
    (s.shrinkPresence l).ci.port = s.ci.port := by
  unfold State.shrinkPresence
  dsimp only
  split <;> rfl

@[simp] theorem State.expireWindow_port (s : State) : s.expireWindow.ci.port = s.ci.port := by
  simp [State.expireWindow]

/-- A completed command leaves its reply frame at a READY port (R93). -/
@[simp] theorem State.finish_port (status : ConsoleStatus) (body : List Byte) (s : State) :
    (s.finish status body).ci.port = .ready (some { status := status, body := body }) := by
  unfold State.finish
  dsimp only
  split <;> simp

@[simp] theorem State.expireWindow_decided (s : State) :
    s.expireWindow.ci.decided = s.ci.decided := by
  unfold State.expireWindow State.shrinkPresence
  dsimp only
  split <;> rfl

/-- A completed command leaves nothing decided (R93). -/
@[simp] theorem State.finish_decided (status : ConsoleStatus) (body : List Byte) (s : State) :
    (s.finish status body).ci.decided = none := by
  unfold State.finish
  dsimp only
  split <;> simp

/-- What the list and the context become when custodians leave (R101). -/
theorem State.shrinkPresence_presence (l : List CustodianNo) (s : State) :
    (s.shrinkPresence l).ci.presence = l := by
  unfold State.shrinkPresence
  dsimp only
  split <;> rfl

theorem State.shrinkPresence_cec (l : List CustodianNo) (s : State) :
    (s.shrinkPresence l).cec =
      if 2 ≤ s.ci.presence.length ∧ l.length < 2 then none else s.cec := by
  unfold State.shrinkPresence
  dsimp only
  by_cases h1 : 2 ≤ s.ci.presence.length <;> by_cases h2 : l.length < 2 <;> simp [h1, h2]

/-- Without a pending expiry, completion places the reply frame and nothing else (R93). -/
theorem State.finish_plain (status : ConsoleStatus) (body : List Byte) (s : State)
    (h : s.ci.expiryPending = false) :
    s.finish status body =
      s.withCi { s.ci with
        port := .ready (some { status := status, body := body }), decided := none } := by
  simp [State.finish, h]

/-- A pending expiry takes effect in the step of completion (R103). -/
theorem State.finish_expiring (status : ConsoleStatus) (body : List Byte) (s : State)
    (h : s.ci.expiryPending = true) :
    s.finish status body =
      (s.withCi { s.ci with
        port := .ready (some { status := status, body := body })
        decided := none }).expireWindow := by
  simp [State.finish, h]

end Sys2Proof.Machine
end

