-- ==== Sys2Proof/Laws/WholePart.lean ====
section
/-! SUPPORT. What the operations that reach the whole part leave as it stands: the erase start and its
triggers, hold entry, the steps of a restart, the erase pass. -/

namespace Sys2Proof.Machine

/-! ## Erase start (R171) -/

@[simp] theorem State.eraseBegin_kt (s : State) :
    s.eraseBegin.kt = s.kt := rfl
@[simp] theorem State.eraseBegin_su (s : State) :
    s.eraseBegin.su = s.su := rfl
@[simp] theorem State.eraseBegin_cc (s : State) :
    s.eraseBegin.cc = s.cc := rfl
@[simp] theorem State.eraseBegin_channels (s : State) :
    s.eraseBegin.channels = s.channels := rfl
@[simp] theorem State.eraseBegin_lhi (s : State) :
    s.eraseBegin.lhi = s.lhi := rfl
@[simp] theorem State.eraseBegin_ci (s : State) :
    s.eraseBegin.ci = s.ci := rfl
@[simp] theorem State.eraseBegin_cec (s : State) :
    s.eraseBegin.cec = s.cec := rfl
@[simp] theorem State.eraseBegin_tm (s : State) :
    s.eraseBegin.tm = s.tm := rfl
@[simp] theorem State.eraseBegin_ess (s : State) :
    s.eraseBegin.ess = s.ess := rfl
@[simp] theorem State.eraseBegin_pwr (s : State) :
    s.eraseBegin.pwr = s.pwr := rfl
@[simp] theorem State.eraseBegin_pins (s : State) :
    s.eraseBegin.pins = s.pins := rfl
@[simp] theorem State.eraseBegin_pending (s : State) :
    s.eraseBegin.pending = s.pending := rfl

@[simp] theorem State.eraseService_kt (s : State) :
    s.eraseService.kt = s.kt := rfl
@[simp] theorem State.eraseService_ci (s : State) :
    s.eraseService.ci = s.ci := rfl
@[simp] theorem State.eraseService_cec (s : State) :
    s.eraseService.cec = s.cec := rfl
@[simp] theorem State.eraseService_tm (s : State) :
    s.eraseService.tm = s.tm := rfl
@[simp] theorem State.eraseService_ess (s : State) :
    s.eraseService.ess = s.ess := rfl
@[simp] theorem State.eraseService_ec (s : State) :
    s.eraseService.ec = s.ec := rfl
@[simp] theorem State.eraseService_pwr (s : State) :
    s.eraseService.pwr = s.pwr := rfl
@[simp] theorem State.eraseService_pins (s : State) :
    s.eraseService.pins = s.pins := rfl
@[simp] theorem State.eraseService_pending (s : State) :
    s.eraseService.pending = s.pending := rfl

@[simp] theorem State.eraseRecord_kt (c : Cause) (s : State) :
    (s.eraseRecord c).kt = s.kt := by
  unfold State.eraseRecord
  simp
@[simp] theorem State.eraseRecord_su (c : Cause) (s : State) :
    (s.eraseRecord c).su = s.su := by
  unfold State.eraseRecord
  simp
@[simp] theorem State.eraseRecord_cc (c : Cause) (s : State) :
    (s.eraseRecord c).cc = s.cc := by
  unfold State.eraseRecord
  simp
@[simp] theorem State.eraseRecord_channels (c : Cause) (s : State) :
    (s.eraseRecord c).channels = s.channels := by
  unfold State.eraseRecord
  simp
@[simp] theorem State.eraseRecord_lhi (c : Cause) (s : State) :
    (s.eraseRecord c).lhi = s.lhi := by
  unfold State.eraseRecord
  simp
@[simp] theorem State.eraseRecord_cec (c : Cause) (s : State) :
    (s.eraseRecord c).cec = s.cec := by
  unfold State.eraseRecord
  simp
@[simp] theorem State.eraseRecord_ess (c : Cause) (s : State) :
    (s.eraseRecord c).ess = s.ess := by
  unfold State.eraseRecord
  simp
@[simp] theorem State.eraseRecord_pwr (c : Cause) (s : State) :
    (s.eraseRecord c).pwr = s.pwr := by
  unfold State.eraseRecord
  simp
@[simp] theorem State.eraseRecord_pins (c : Cause) (s : State) :
    (s.eraseRecord c).pins = s.pins := by
  unfold State.eraseRecord
  simp
@[simp] theorem State.eraseRecord_pending (c : Cause) (s : State) :
    (s.eraseRecord c).pending = s.pending := by
  unfold State.eraseRecord
  simp

@[simp] theorem State.eraseConsole_kt (s : State) :
    s.eraseConsole.kt = s.kt := rfl
@[simp] theorem State.eraseConsole_su (s : State) :
    s.eraseConsole.su = s.su := rfl
@[simp] theorem State.eraseConsole_cc (s : State) :
    s.eraseConsole.cc = s.cc := rfl
@[simp] theorem State.eraseConsole_channels (s : State) :
    s.eraseConsole.channels = s.channels := rfl
@[simp] theorem State.eraseConsole_lhi (s : State) :
    s.eraseConsole.lhi = s.lhi := rfl
@[simp] theorem State.eraseConsole_tm (s : State) :
    s.eraseConsole.tm = s.tm := rfl
@[simp] theorem State.eraseConsole_ess (s : State) :
    s.eraseConsole.ess = s.ess := rfl
@[simp] theorem State.eraseConsole_ec (s : State) :
    s.eraseConsole.ec = s.ec := rfl
@[simp] theorem State.eraseConsole_pwr (s : State) :
    s.eraseConsole.pwr = s.pwr := rfl
@[simp] theorem State.eraseConsole_pins (s : State) :
    s.eraseConsole.pins = s.pins := rfl
@[simp] theorem State.eraseConsole_pending (s : State) :
    s.eraseConsole.pending = s.pending := rfl

@[simp] theorem State.eraseCheck_kt (s : State) :
    s.eraseCheck.kt = s.kt := rfl
@[simp] theorem State.eraseCheck_su (s : State) :
    s.eraseCheck.su = s.su := rfl
@[simp] theorem State.eraseCheck_cc (s : State) :
    s.eraseCheck.cc = s.cc := rfl
@[simp] theorem State.eraseCheck_channels (s : State) :
    s.eraseCheck.channels = s.channels := rfl
@[simp] theorem State.eraseCheck_lhi (s : State) :
    s.eraseCheck.lhi = s.lhi := rfl
@[simp] theorem State.eraseCheck_ci (s : State) :
    s.eraseCheck.ci = s.ci := rfl
@[simp] theorem State.eraseCheck_cec (s : State) :
    s.eraseCheck.cec = s.cec := rfl
@[simp] theorem State.eraseCheck_tm (s : State) :
    s.eraseCheck.tm = s.tm := rfl
@[simp] theorem State.eraseCheck_ess (s : State) :
    s.eraseCheck.ess = s.ess := rfl
@[simp] theorem State.eraseCheck_ec (s : State) :
    s.eraseCheck.ec = s.ec := rfl
@[simp] theorem State.eraseCheck_pins (s : State) :
    s.eraseCheck.pins = s.pins := rfl
@[simp] theorem State.eraseCheck_pending (s : State) :
    s.eraseCheck.pending = s.pending := rfl

@[simp] theorem State.eraseStart_kt (c : Cause) (s : State) :
    (s.eraseStart c).kt = s.kt := by
  unfold State.eraseStart
  simp
@[simp] theorem State.eraseStart_ess (c : Cause) (s : State) :
    (s.eraseStart c).ess = s.ess := by
  unfold State.eraseStart
  simp
@[simp] theorem State.eraseStart_pins (c : Cause) (s : State) :
    (s.eraseStart c).pins = s.pins := by
  unfold State.eraseStart
  simp
@[simp] theorem State.eraseStart_pending (c : Cause) (s : State) :
    (s.eraseStart c).pending = s.pending := by
  unfold State.eraseStart
  simp

@[simp] theorem State.trigger_kt (c : Cause) (s : State) :
    (s.trigger c).kt = s.kt := by
  unfold State.trigger
  split <;> simp
@[simp] theorem State.trigger_ess (c : Cause) (s : State) :
    (s.trigger c).ess = s.ess := by
  unfold State.trigger
  split <;> simp
@[simp] theorem State.trigger_pins (c : Cause) (s : State) :
    (s.trigger c).pins = s.pins := by
  unfold State.trigger
  split <;> simp
@[simp] theorem State.trigger_pending (c : Cause) (s : State) :
    (s.trigger c).pending = s.pending := by
  unfold State.trigger
  split <;> simp

@[simp] theorem State.lidReport_kt (s : State) :
    s.lidReport.kt = s.kt := by
  unfold State.lidReport
  split <;> simp
@[simp] theorem State.lidReport_ess (s : State) :
    s.lidReport.ess = s.ess := by
  unfold State.lidReport
  split <;> simp
@[simp] theorem State.lidReport_pins (s : State) :
    s.lidReport.pins = s.pins := by
  unfold State.lidReport
  split <;> simp
@[simp] theorem State.lidReport_pending (s : State) :
    s.lidReport.pending = s.pending := by
  unfold State.lidReport
  split <;> simp

/-! ## Hold entry (R185) -/

@[simp] theorem State.loseWork_kt (p : Port) (s : State) :
    (s.loseWork p).kt = s.kt := rfl
@[simp] theorem State.loseWork_tm (p : Port) (s : State) :
    (s.loseWork p).tm = s.tm := rfl
@[simp] theorem State.loseWork_ess (p : Port) (s : State) :
    (s.loseWork p).ess = s.ess := rfl
@[simp] theorem State.loseWork_ec (p : Port) (s : State) :
    (s.loseWork p).ec = s.ec := rfl
@[simp] theorem State.loseWork_pwr (p : Port) (s : State) :
    (s.loseWork p).pwr = s.pwr := rfl
@[simp] theorem State.loseWork_pins (p : Port) (s : State) :
    (s.loseWork p).pins = s.pins := rfl
@[simp] theorem State.loseWork_pending (p : Port) (s : State) :
    (s.loseWork p).pending = s.pending := rfl

@[simp] theorem State.judgeInHold_kt (x : Option BatteryResult) (s : State) :
    (s.judgeInHold x).kt = s.kt := by
  unfold State.judgeInHold
  split
  · split <;> simp
  · rfl
@[simp] theorem State.judgeInHold_ess (x : Option BatteryResult) (s : State) :
    (s.judgeInHold x).ess = s.ess := by
  unfold State.judgeInHold
  split
  · split <;> simp
  · rfl
@[simp] theorem State.judgeInHold_pins (x : Option BatteryResult) (s : State) :
    (s.judgeInHold x).pins = s.pins := by
  unfold State.judgeInHold
  split
  · split <;> simp
  · rfl
@[simp] theorem State.judgeInHold_pending (x : Option BatteryResult) (s : State) :
    (s.judgeInHold x).pending = s.pending := by
  unfold State.judgeInHold
  split
  · split <;> simp
  · rfl

@[simp] theorem State.holdEntry_kt (s : State) :
    s.holdEntry.kt = s.kt := by
  unfold State.holdEntry
  simp
@[simp] theorem State.holdEntry_pins (s : State) :
    s.holdEntry.pins = s.pins := by
  unfold State.holdEntry
  simp
@[simp] theorem State.holdEntry_pending (s : State) :
    s.holdEntry.pending = s.pending := by
  unfold State.holdEntry
  simp

/-! ## Restart (R187) -/

@[simp] theorem State.initialise_kt (s : State) :
    s.initialise.kt = s.kt := rfl
@[simp] theorem State.initialise_ec (s : State) :
    s.initialise.ec = s.ec := rfl
@[simp] theorem State.initialise_pins (s : State) :
    s.initialise.pins = s.pins := rfl
@[simp] theorem State.initialise_pending (s : State) :
    s.initialise.pending = s.pending := rfl

@[simp] theorem State.finishRestart_kt (cold : Bool) (s : State) :
    (s.finishRestart cold).kt = s.kt := by
  unfold State.finishRestart
  simp
@[simp] theorem State.finishRestart_su (cold : Bool) (s : State) :
    (s.finishRestart cold).su = s.su := by
  unfold State.finishRestart
  simp
@[simp] theorem State.finishRestart_cc (cold : Bool) (s : State) :
    (s.finishRestart cold).cc = s.cc := by
  unfold State.finishRestart
  simp
@[simp] theorem State.finishRestart_channels (cold : Bool) (s : State) :
    (s.finishRestart cold).channels = s.channels := by
  unfold State.finishRestart
  simp
@[simp] theorem State.finishRestart_cec (cold : Bool) (s : State) :
    (s.finishRestart cold).cec = s.cec := by
  unfold State.finishRestart
  simp
@[simp] theorem State.finishRestart_tm (cold : Bool) (s : State) :
    (s.finishRestart cold).tm = s.tm := by
  unfold State.finishRestart
  simp
@[simp] theorem State.finishRestart_ess (cold : Bool) (s : State) :
    (s.finishRestart cold).ess = s.ess := by
  unfold State.finishRestart
  simp
@[simp] theorem State.finishRestart_ec (cold : Bool) (s : State) :
    (s.finishRestart cold).ec = s.ec := by
  unfold State.finishRestart
  simp
@[simp] theorem State.finishRestart_pins (cold : Bool) (s : State) :
    (s.finishRestart cold).pins = s.pins := by
  unfold State.finishRestart
  simp
@[simp] theorem State.finishRestart_pending (cold : Bool) (s : State) :
    (s.finishRestart cold).pending = s.pending := by
  unfold State.finishRestart
  simp

@[simp] theorem State.selfCheckFrom_kt (n : Nat) (cold : Bool) (s : State) :
    (s.selfCheckFrom n cold).kt = s.kt := by
  unfold State.selfCheckFrom
  split <;> simp
@[simp] theorem State.selfCheckFrom_su (n : Nat) (cold : Bool) (s : State) :
    (s.selfCheckFrom n cold).su = s.su := by
  unfold State.selfCheckFrom
  split <;> simp
@[simp] theorem State.selfCheckFrom_channels (n : Nat) (cold : Bool) (s : State) :
    (s.selfCheckFrom n cold).channels = s.channels := by
  unfold State.selfCheckFrom
  split <;> simp
@[simp] theorem State.selfCheckFrom_cec (n : Nat) (cold : Bool) (s : State) :
    (s.selfCheckFrom n cold).cec = s.cec := by
  unfold State.selfCheckFrom
  split <;> simp
@[simp] theorem State.selfCheckFrom_tm (n : Nat) (cold : Bool) (s : State) :
    (s.selfCheckFrom n cold).tm = s.tm := by
  unfold State.selfCheckFrom
  split <;> simp
@[simp] theorem State.selfCheckFrom_ess (n : Nat) (cold : Bool) (s : State) :
    (s.selfCheckFrom n cold).ess = s.ess := by
  unfold State.selfCheckFrom
  split <;> simp
@[simp] theorem State.selfCheckFrom_ec (n : Nat) (cold : Bool) (s : State) :
    (s.selfCheckFrom n cold).ec = s.ec := by
  unfold State.selfCheckFrom
  split <;> simp
@[simp] theorem State.selfCheckFrom_pins (n : Nat) (cold : Bool) (s : State) :
    (s.selfCheckFrom n cold).pins = s.pins := by
  unfold State.selfCheckFrom
  split <;> simp
@[simp] theorem State.selfCheckFrom_pending (n : Nat) (cold : Bool) (s : State) :
    (s.selfCheckFrom n cold).pending = s.pending := by
  unfold State.selfCheckFrom
  split <;> simp

@[simp] theorem State.continueRestart_kt (cold : Bool) (s : State) :
    (s.continueRestart cold).kt = s.kt := by
  unfold State.continueRestart
  simp
@[simp] theorem State.continueRestart_su (cold : Bool) (s : State) :
    (s.continueRestart cold).su = s.su := by
  unfold State.continueRestart
  simp
@[simp] theorem State.continueRestart_channels (cold : Bool) (s : State) :
    (s.continueRestart cold).channels = s.channels := by
  unfold State.continueRestart
  simp
@[simp] theorem State.continueRestart_cec (cold : Bool) (s : State) :
    (s.continueRestart cold).cec = s.cec := by
  unfold State.continueRestart
  simp
@[simp] theorem State.continueRestart_tm (cold : Bool) (s : State) :
    (s.continueRestart cold).tm = s.tm := by
  unfold State.continueRestart
  simp
@[simp] theorem State.continueRestart_ess (cold : Bool) (s : State) :
    (s.continueRestart cold).ess = s.ess := by
  unfold State.continueRestart
  simp
@[simp] theorem State.continueRestart_ec (cold : Bool) (s : State) :
    (s.continueRestart cold).ec = s.ec := by
  unfold State.continueRestart
  simp
@[simp] theorem State.continueRestart_pins (cold : Bool) (s : State) :
    (s.continueRestart cold).pins = s.pins := by
  unfold State.continueRestart
  simp
@[simp] theorem State.continueRestart_pending (cold : Bool) (s : State) :
    (s.continueRestart cold).pending = s.pending := by
  unfold State.continueRestart
  simp

@[simp] theorem State.resumeRestart_kt (s : State) :
    s.resumeRestart.kt = s.kt := by
  unfold State.resumeRestart
  split
  · split <;> simp
  · simp
  all_goals rfl
@[simp] theorem State.resumeRestart_su (s : State) :
    s.resumeRestart.su = s.su := by
  unfold State.resumeRestart
  split
  · split <;> simp
  · simp
  all_goals rfl
@[simp] theorem State.resumeRestart_channels (s : State) :
    s.resumeRestart.channels = s.channels := by
  unfold State.resumeRestart
  split
  · split <;> simp
  · simp
  all_goals rfl
@[simp] theorem State.resumeRestart_cec (s : State) :
    s.resumeRestart.cec = s.cec := by
  unfold State.resumeRestart
  split
  · split <;> simp
  · simp
  all_goals rfl
@[simp] theorem State.resumeRestart_tm (s : State) :
    s.resumeRestart.tm = s.tm := by
  unfold State.resumeRestart
  split
  · split <;> simp
  · simp
  all_goals rfl
@[simp] theorem State.resumeRestart_ess (s : State) :
    s.resumeRestart.ess = s.ess := by
  unfold State.resumeRestart
  split
  · split <;> simp
  · simp
  all_goals rfl
@[simp] theorem State.resumeRestart_ec (s : State) :
    s.resumeRestart.ec = s.ec := by
  unfold State.resumeRestart
  split
  · split <;> simp
  · simp
  all_goals rfl
@[simp] theorem State.resumeRestart_pins (s : State) :
    s.resumeRestart.pins = s.pins := by
  unfold State.resumeRestart
  split
  · split <;> simp
  · simp
  all_goals rfl
@[simp] theorem State.resumeRestart_pending (s : State) :
    s.resumeRestart.pending = s.pending := by
  unfold State.resumeRestart
  split
  · split <;> simp
  · simp
  all_goals rfl

@[simp] theorem State.beginRestart_kt (s : State) :
    s.beginRestart.kt = s.kt := by
  unfold State.beginRestart
  simp
@[simp] theorem State.beginRestart_ec (s : State) :
    s.beginRestart.ec = s.ec := by
  unfold State.beginRestart
  simp
@[simp] theorem State.beginRestart_pins (s : State) :
    s.beginRestart.pins = s.pins := by
  unfold State.beginRestart
  simp
@[simp] theorem State.beginRestart_pending (s : State) :
    s.beginRestart.pending = s.pending := by
  unfold State.beginRestart
  simp

/-! ## Erase progress (R173, R175, R183) -/

@[simp] theorem State.actOnHeld_kt (s : State) :
    s.actOnHeld.kt = s.kt := by
  unfold State.actOnHeld
  split
  · simp
  · simp
  · split <;> simp
@[simp] theorem State.actOnHeld_pins (s : State) :
    s.actOnHeld.pins = s.pins := by
  unfold State.actOnHeld
  split
  · simp
  · simp
  · split <;> simp
@[simp] theorem State.actOnHeld_pending (s : State) :
    s.actOnHeld.pending = s.pending := by
  unfold State.actOnHeld
  split
  · simp
  · simp
  · split <;> simp

@[simp] theorem State.completeErase_kt (s : State) :
    s.completeErase.kt = s.kt := by
  unfold State.completeErase
  simp
@[simp] theorem State.completeErase_pins (s : State) :
    s.completeErase.pins = s.pins := by
  unfold State.completeErase
  simp
@[simp] theorem State.completeErase_pending (s : State) :
    s.completeErase.pending = s.pending := by
  unfold State.completeErase
  simp

@[simp] theorem State.eraseAt_pins (i : EntryIndex) (s : State) :
    (s.eraseAt i).pins = s.pins := by
  unfold State.eraseAt
  dsimp only
  split <;> simp
@[simp] theorem State.eraseAt_pending (i : EntryIndex) (s : State) :
    (s.eraseAt i).pending = s.pending := by
  unfold State.eraseAt
  dsimp only
  split <;> simp

end Sys2Proof.Machine
end

