-- ==== Sys2Proof/Laws/Erase.lean ====
section
/-! SUPPORT. What an erase start and a trigger do, said once (R170, R171, R177), and the shared facts
of hold entry and restart that the laws of the whole part rest on. -/

namespace Sys2Proof.Machine

/-! ## Erase start (R171) -/

@[simp] theorem State.eraseStart_position (cause : Cause) (s : State) :
    (s.eraseStart cause).ec.position = some 0 := by
  simp [State.eraseStart, State.eraseRecord, State.eraseService, State.eraseBegin]

@[simp] theorem State.eraseStart_record (cause : Cause) (s : State) :
    (s.eraseStart cause).ec.record =
      s.ec.record.afresh cause s.pwr.seconds s.tm.meshA.lastM s.tm.meshB.lastM := by
  simp [State.eraseStart, State.eraseRecord, State.eraseService, State.eraseBegin]

@[simp] theorem State.eraseStart_tm (cause : Cause) (s : State) :
    (s.eraseStart cause).tm = s.tm.trip := by
  simp [State.eraseStart, State.eraseRecord]

@[simp] theorem State.eraseStart_cec (cause : Cause) (s : State) :
    (s.eraseStart cause).cec = none := by
  simp [State.eraseStart, State.eraseConsole]

@[simp] theorem State.eraseStart_cc (cause : Cause) (s : State) :
    (s.eraseStart cause).cc = CipherCore.idle := by
  simp [State.eraseStart, State.eraseService]

@[simp] theorem State.eraseStart_su (cause : Cause) (s : State) :
    (s.eraseStart cause).su = { s.su with inService := none } := by
  simp [State.eraseStart, State.eraseService]

@[simp] theorem State.eraseStart_lhi (cause : Cause) (s : State) :
    (s.eraseStart cause).lhi = s.lhi.eraseStart := by
  simp [State.eraseStart, State.eraseService]

@[simp] theorem State.eraseStart_presence (cause : Cause) (s : State) :
    (s.eraseStart cause).ci.presence = [] := by
  simp [State.eraseStart, State.eraseConsole]

@[simp] theorem State.eraseStart_port (cause : Cause) (s : State) :
    (s.eraseStart cause).ci.port = s.ci.port.eraseStart := by
  have h : ((s.eraseBegin.eraseService).eraseRecord cause).ci.port = s.ci.port := by
    simp [State.eraseRecord]
  simp [State.eraseStart, State.eraseConsole, h]

@[simp] theorem State.eraseStart_decided (cause : Cause) (s : State) :
    (s.eraseStart cause).ci.decided = none := by
  simp [State.eraseStart, State.eraseConsole]

theorem State.eraseStart_channel (cause : Cause) (c : ChannelNo) (s : State) :
    (s.eraseStart cause).channel c = (s.channel c).eraseStart (s.endedFor c) := by
  have h : (s.eraseStart cause).channels = s.eraseBegin.eraseService.channels := by
    simp [State.eraseStart]
  rw [State.channel_congr h]
  simp [State.eraseService, State.channel, State.endedFor]

/-- No command is in progress after an erase start (R93, R172). -/
theorem Port.eraseStart_not_executing (p : Port) (c : Command) : p.eraseStart ≠ .executing c := by
  unfold Port.eraseStart
  split <;> simp

/-! ## Triggers (R170, R177) -/

/-- A trigger that finds no erase in progress starts one. -/
theorem State.trigger_idle (cause : Cause) (s : State) (h : s.ec.position = none) :
    s.trigger cause = s.eraseStart cause := by
  simp [State.trigger, h]

/-- A trigger during an erase adds its cause and changes nothing else. -/
theorem State.trigger_erasing (cause : Cause) (s : State) (h : s.ec.position ≠ none) :
    s.trigger cause =
      s.withEc { s.ec with
        record := { s.ec.record with causes := s.ec.record.causes ||| cause.set } } := by
  unfold State.trigger
  split
  · contradiction
  · rfl

/-! ## Hold entry and restart (R185, R187) -/

theorem State.channel_loseWork (p : Port) (c : ChannelNo) (s : State) :
    (s.loseWork p).channel c = (s.channel c).loseWork := by
  simp [State.loseWork, State.channel]

theorem MonitorState.endLearning_cases (m : MonitorState) :
    m.endLearning = m ∨ m = .learning ∧ m.endLearning = .unarmed := by
  cases m <;> simp [MonitorState.endLearning]

@[simp] theorem TamperMonitor.setMesh_state (m : Mesh) (r : MeshRecord) (tm : TamperMonitor) :
    (tm.setMesh m r).state = tm.state := by
  unfold TamperMonitor.setMesh
  split <;> rfl

@[simp] theorem TamperMonitor.discard_state (tm : TamperMonitor) : tm.discard.state = tm.state := by
  unfold TamperMonitor.discard
  split
  · rfl
  · simp

@[simp] theorem TamperMonitor.holdEntry_state (tm : TamperMonitor) :
    tm.holdEntry.state = tm.state.endLearning := by
  simp [TamperMonitor.holdEntry, TamperMonitor.begin]

@[simp] theorem TamperMonitor.restart_state (tm : TamperMonitor) :
    tm.restart.state = tm.state.endLearning :=
  rfl

/-- The next index is one higher, or there is none after entry 95 (R173). -/
theorem nextIndex_some {i j : EntryIndex} (h : nextIndex i = some j) : j.val = i.val + 1 := by
  simp only [nextIndex, entryIndex?] at h
  split at h <;> simp_all
  subst h
  rfl

theorem nextIndex_none {i : EntryIndex} (h : nextIndex i = none) : i.val = 95 := by
  simp only [nextIndex, entryIndex?] at h
  split at h <;> simp_all
  omega

end Sys2Proof.Machine
end

