-- ==== Sys2Proof/Laws/Serve.lean ====
section
/-! SUPPORT. What serving each console command leaves as it stands. -/

namespace Sys2Proof.Machine

@[simp] theorem served_state (s : State) : (served s).state = s := rfl
@[simp] theorem served_status (s : State) : (served s).status = .done := rfl
@[simp] theorem served_body (s : State) : (served s).body = [] := rfl
@[simp] theorem servedBody_state (b : List Byte) (s : State) : (servedBody b s).state = s := rfl
@[simp] theorem servedBody_status (b : List Byte) (s : State) :
    (servedBody b s).status = .done := rfl
@[simp] theorem servedBody_body (b : List Byte) (s : State) : (servedBody b s).body = b := rfl
@[simp] theorem unserved_state (e : ConsoleStatus) (s : State) : (unserved e s).state = s := rfl
@[simp] theorem unserved_status (e : ConsoleStatus) (s : State) : (unserved e s).status = e := rfl
@[simp] theorem unserved_body (e : ConsoleStatus) (s : State) : (unserved e s).body = [] := rfl

@[simp] theorem State.onEntry_su (b : Byte) (f : Entry → Option Entry) (s : State) :
    (s.onEntry b f).state.su = s.su := by
  unfold State.onEntry
  repeat' split
  all_goals simp
@[simp] theorem State.onEntry_cc (b : Byte) (f : Entry → Option Entry) (s : State) :
    (s.onEntry b f).state.cc = s.cc := by
  unfold State.onEntry
  repeat' split
  all_goals simp
@[simp] theorem State.onEntry_channels (b : Byte) (f : Entry → Option Entry) (s : State) :
    (s.onEntry b f).state.channels = s.channels := by
  unfold State.onEntry
  repeat' split
  all_goals simp
@[simp] theorem State.onEntry_lhi (b : Byte) (f : Entry → Option Entry) (s : State) :
    (s.onEntry b f).state.lhi = s.lhi := by
  unfold State.onEntry
  repeat' split
  all_goals simp
@[simp] theorem State.onEntry_ci (b : Byte) (f : Entry → Option Entry) (s : State) :
    (s.onEntry b f).state.ci = s.ci := by
  unfold State.onEntry
  repeat' split
  all_goals simp
@[simp] theorem State.onEntry_cec (b : Byte) (f : Entry → Option Entry) (s : State) :
    (s.onEntry b f).state.cec = s.cec := by
  unfold State.onEntry
  repeat' split
  all_goals simp
@[simp] theorem State.onEntry_tm (b : Byte) (f : Entry → Option Entry) (s : State) :
    (s.onEntry b f).state.tm = s.tm := by
  unfold State.onEntry
  repeat' split
  all_goals simp
@[simp] theorem State.onEntry_ess (b : Byte) (f : Entry → Option Entry) (s : State) :
    (s.onEntry b f).state.ess = s.ess := by
  unfold State.onEntry
  repeat' split
  all_goals simp
@[simp] theorem State.onEntry_ec (b : Byte) (f : Entry → Option Entry) (s : State) :
    (s.onEntry b f).state.ec = s.ec := by
  unfold State.onEntry
  repeat' split
  all_goals simp
@[simp] theorem State.onEntry_pwr (b : Byte) (f : Entry → Option Entry) (s : State) :
    (s.onEntry b f).state.pwr = s.pwr := by
  unfold State.onEntry
  repeat' split
  all_goals simp
@[simp] theorem State.onEntry_pins (b : Byte) (f : Entry → Option Entry) (s : State) :
    (s.onEntry b f).state.pins = s.pins := by
  unfold State.onEntry
  repeat' split
  all_goals simp
@[simp] theorem State.onEntry_pending (b : Byte) (f : Entry → Option Entry) (s : State) :
    (s.onEntry b f).state.pending = s.pending := by
  unfold State.onEntry
  repeat' split
  all_goals simp

@[simp] theorem State.onChannel_kt (b : Byte) (f : Channel → Option Channel) (s : State) :
    (s.onChannel b f).state.kt = s.kt := by
  unfold State.onChannel
  repeat' split
  all_goals simp
@[simp] theorem State.onChannel_su (b : Byte) (f : Channel → Option Channel) (s : State) :
    (s.onChannel b f).state.su = s.su := by
  unfold State.onChannel
  repeat' split
  all_goals simp
@[simp] theorem State.onChannel_cc (b : Byte) (f : Channel → Option Channel) (s : State) :
    (s.onChannel b f).state.cc = s.cc := by
  unfold State.onChannel
  repeat' split
  all_goals simp
@[simp] theorem State.onChannel_lhi (b : Byte) (f : Channel → Option Channel) (s : State) :
    (s.onChannel b f).state.lhi = s.lhi := by
  unfold State.onChannel
  repeat' split
  all_goals simp
@[simp] theorem State.onChannel_ci (b : Byte) (f : Channel → Option Channel) (s : State) :
    (s.onChannel b f).state.ci = s.ci := by
  unfold State.onChannel
  repeat' split
  all_goals simp
@[simp] theorem State.onChannel_cec (b : Byte) (f : Channel → Option Channel) (s : State) :
    (s.onChannel b f).state.cec = s.cec := by
  unfold State.onChannel
  repeat' split
  all_goals simp
@[simp] theorem State.onChannel_tm (b : Byte) (f : Channel → Option Channel) (s : State) :
    (s.onChannel b f).state.tm = s.tm := by
  unfold State.onChannel
  repeat' split
  all_goals simp
@[simp] theorem State.onChannel_ess (b : Byte) (f : Channel → Option Channel) (s : State) :
    (s.onChannel b f).state.ess = s.ess := by
  unfold State.onChannel
  repeat' split
  all_goals simp
@[simp] theorem State.onChannel_ec (b : Byte) (f : Channel → Option Channel) (s : State) :
    (s.onChannel b f).state.ec = s.ec := by
  unfold State.onChannel
  repeat' split
  all_goals simp
@[simp] theorem State.onChannel_pwr (b : Byte) (f : Channel → Option Channel) (s : State) :
    (s.onChannel b f).state.pwr = s.pwr := by
  unfold State.onChannel
  repeat' split
  all_goals simp
@[simp] theorem State.onChannel_pins (b : Byte) (f : Channel → Option Channel) (s : State) :
    (s.onChannel b f).state.pins = s.pins := by
  unfold State.onChannel
  repeat' split
  all_goals simp
@[simp] theorem State.onChannel_pending (b : Byte) (f : Channel → Option Channel) (s : State) :
    (s.onChannel b f).state.pending = s.pending := by
  unfold State.onChannel
  repeat' split
  all_goals simp

@[simp] theorem State.serveGrant_su (b : Byte) (x : BitVec 24) (s : State) :
    (s.serveGrant b x).state.su = s.su := by
  unfold State.serveGrant
  split <;> simp
@[simp] theorem State.serveGrant_cc (b : Byte) (x : BitVec 24) (s : State) :
    (s.serveGrant b x).state.cc = s.cc := by
  unfold State.serveGrant
  split <;> simp
@[simp] theorem State.serveGrant_channels (b : Byte) (x : BitVec 24) (s : State) :
    (s.serveGrant b x).state.channels = s.channels := by
  unfold State.serveGrant
  split <;> simp
@[simp] theorem State.serveGrant_lhi (b : Byte) (x : BitVec 24) (s : State) :
    (s.serveGrant b x).state.lhi = s.lhi := by
  unfold State.serveGrant
  split <;> simp
@[simp] theorem State.serveGrant_ci (b : Byte) (x : BitVec 24) (s : State) :
    (s.serveGrant b x).state.ci = s.ci := by
  unfold State.serveGrant
  split <;> simp
@[simp] theorem State.serveGrant_cec (b : Byte) (x : BitVec 24) (s : State) :
    (s.serveGrant b x).state.cec = s.cec := by
  unfold State.serveGrant
  split <;> simp
@[simp] theorem State.serveGrant_tm (b : Byte) (x : BitVec 24) (s : State) :
    (s.serveGrant b x).state.tm = s.tm := by
  unfold State.serveGrant
  split <;> simp
@[simp] theorem State.serveGrant_ess (b : Byte) (x : BitVec 24) (s : State) :
    (s.serveGrant b x).state.ess = s.ess := by
  unfold State.serveGrant
  split <;> simp
@[simp] theorem State.serveGrant_ec (b : Byte) (x : BitVec 24) (s : State) :
    (s.serveGrant b x).state.ec = s.ec := by
  unfold State.serveGrant
  split <;> simp
@[simp] theorem State.serveGrant_pwr (b : Byte) (x : BitVec 24) (s : State) :
    (s.serveGrant b x).state.pwr = s.pwr := by
  unfold State.serveGrant
  split <;> simp
@[simp] theorem State.serveGrant_pins (b : Byte) (x : BitVec 24) (s : State) :
    (s.serveGrant b x).state.pins = s.pins := by
  unfold State.serveGrant
  split <;> simp
@[simp] theorem State.serveGrant_pending (b : Byte) (x : BitVec 24) (s : State) :
    (s.serveGrant b x).state.pending = s.pending := by
  unfold State.serveGrant
  split <;> simp

@[simp] theorem State.serveLabel_su (b : Byte) (l : List Byte) (s : State) :
    (s.serveLabel b l).state.su = s.su := by
  unfold State.serveLabel
  split <;> simp
@[simp] theorem State.serveLabel_cc (b : Byte) (l : List Byte) (s : State) :
    (s.serveLabel b l).state.cc = s.cc := by
  unfold State.serveLabel
  split <;> simp
@[simp] theorem State.serveLabel_channels (b : Byte) (l : List Byte) (s : State) :
    (s.serveLabel b l).state.channels = s.channels := by
  unfold State.serveLabel
  split <;> simp
@[simp] theorem State.serveLabel_lhi (b : Byte) (l : List Byte) (s : State) :
    (s.serveLabel b l).state.lhi = s.lhi := by
  unfold State.serveLabel
  split <;> simp
@[simp] theorem State.serveLabel_ci (b : Byte) (l : List Byte) (s : State) :
    (s.serveLabel b l).state.ci = s.ci := by
  unfold State.serveLabel
  split <;> simp
@[simp] theorem State.serveLabel_cec (b : Byte) (l : List Byte) (s : State) :
    (s.serveLabel b l).state.cec = s.cec := by
  unfold State.serveLabel
  split <;> simp
@[simp] theorem State.serveLabel_tm (b : Byte) (l : List Byte) (s : State) :
    (s.serveLabel b l).state.tm = s.tm := by
  unfold State.serveLabel
  split <;> simp
@[simp] theorem State.serveLabel_ess (b : Byte) (l : List Byte) (s : State) :
    (s.serveLabel b l).state.ess = s.ess := by
  unfold State.serveLabel
  split <;> simp
@[simp] theorem State.serveLabel_ec (b : Byte) (l : List Byte) (s : State) :
    (s.serveLabel b l).state.ec = s.ec := by
  unfold State.serveLabel
  split <;> simp
@[simp] theorem State.serveLabel_pwr (b : Byte) (l : List Byte) (s : State) :
    (s.serveLabel b l).state.pwr = s.pwr := by
  unfold State.serveLabel
  split <;> simp
@[simp] theorem State.serveLabel_pins (b : Byte) (l : List Byte) (s : State) :
    (s.serveLabel b l).state.pins = s.pins := by
  unfold State.serveLabel
  split <;> simp
@[simp] theorem State.serveLabel_pending (b : Byte) (l : List Byte) (s : State) :
    (s.serveLabel b l).state.pending = s.pending := by
  unfold State.serveLabel
  split <;> simp

@[simp] theorem State.serveThreshold_su (x : BitVec 16) (s : State) :
    (s.serveThreshold x).state.su = s.su := rfl
@[simp] theorem State.serveThreshold_cc (x : BitVec 16) (s : State) :
    (s.serveThreshold x).state.cc = s.cc := rfl
@[simp] theorem State.serveThreshold_channels (x : BitVec 16) (s : State) :
    (s.serveThreshold x).state.channels = s.channels := rfl
@[simp] theorem State.serveThreshold_lhi (x : BitVec 16) (s : State) :
    (s.serveThreshold x).state.lhi = s.lhi := rfl
@[simp] theorem State.serveThreshold_ci (x : BitVec 16) (s : State) :
    (s.serveThreshold x).state.ci = s.ci := rfl
@[simp] theorem State.serveThreshold_cec (x : BitVec 16) (s : State) :
    (s.serveThreshold x).state.cec = s.cec := rfl
@[simp] theorem State.serveThreshold_tm (x : BitVec 16) (s : State) :
    (s.serveThreshold x).state.tm = s.tm := rfl
@[simp] theorem State.serveThreshold_ess (x : BitVec 16) (s : State) :
    (s.serveThreshold x).state.ess = s.ess := rfl
@[simp] theorem State.serveThreshold_ec (x : BitVec 16) (s : State) :
    (s.serveThreshold x).state.ec = s.ec := rfl
@[simp] theorem State.serveThreshold_pwr (x : BitVec 16) (s : State) :
    (s.serveThreshold x).state.pwr = s.pwr := rfl
@[simp] theorem State.serveThreshold_pins (x : BitVec 16) (s : State) :
    (s.serveThreshold x).state.pins = s.pins := rfl
@[simp] theorem State.serveThreshold_pending (x : BitVec 16) (s : State) :
    (s.serveThreshold x).state.pending = s.pending := rfl

@[simp] theorem State.serveSetChannel_kt (b : Byte) (x : BitVec 16) (l : Byte) (s : State) :
    (s.serveSetChannel b x l).state.kt = s.kt := by
  unfold State.serveSetChannel
  split <;> simp
@[simp] theorem State.serveSetChannel_su (b : Byte) (x : BitVec 16) (l : Byte) (s : State) :
    (s.serveSetChannel b x l).state.su = s.su := by
  unfold State.serveSetChannel
  split <;> simp
@[simp] theorem State.serveSetChannel_cc (b : Byte) (x : BitVec 16) (l : Byte) (s : State) :
    (s.serveSetChannel b x l).state.cc = s.cc := by
  unfold State.serveSetChannel
  split <;> simp
@[simp] theorem State.serveSetChannel_lhi (b : Byte) (x : BitVec 16) (l : Byte) (s : State) :
    (s.serveSetChannel b x l).state.lhi = s.lhi := by
  unfold State.serveSetChannel
  split <;> simp
@[simp] theorem State.serveSetChannel_ci (b : Byte) (x : BitVec 16) (l : Byte) (s : State) :
    (s.serveSetChannel b x l).state.ci = s.ci := by
  unfold State.serveSetChannel
  split <;> simp
@[simp] theorem State.serveSetChannel_cec (b : Byte) (x : BitVec 16) (l : Byte) (s : State) :
    (s.serveSetChannel b x l).state.cec = s.cec := by
  unfold State.serveSetChannel
  split <;> simp
@[simp] theorem State.serveSetChannel_tm (b : Byte) (x : BitVec 16) (l : Byte) (s : State) :
    (s.serveSetChannel b x l).state.tm = s.tm := by
  unfold State.serveSetChannel
  split <;> simp
@[simp] theorem State.serveSetChannel_ess (b : Byte) (x : BitVec 16) (l : Byte) (s : State) :
    (s.serveSetChannel b x l).state.ess = s.ess := by
  unfold State.serveSetChannel
  split <;> simp
@[simp] theorem State.serveSetChannel_ec (b : Byte) (x : BitVec 16) (l : Byte) (s : State) :
    (s.serveSetChannel b x l).state.ec = s.ec := by
  unfold State.serveSetChannel
  split <;> simp
@[simp] theorem State.serveSetChannel_pwr (b : Byte) (x : BitVec 16) (l : Byte) (s : State) :
    (s.serveSetChannel b x l).state.pwr = s.pwr := by
  unfold State.serveSetChannel
  split <;> simp
@[simp] theorem State.serveSetChannel_pins (b : Byte) (x : BitVec 16) (l : Byte) (s : State) :
    (s.serveSetChannel b x l).state.pins = s.pins := by
  unfold State.serveSetChannel
  split <;> simp
@[simp] theorem State.serveSetChannel_pending (b : Byte) (x : BitVec 16) (l : Byte) (s : State) :
    (s.serveSetChannel b x l).state.pending = s.pending := by
  unfold State.serveSetChannel
  split <;> simp

@[simp] theorem State.serveFlush_kt (b : Byte) (s : State) :
    (s.serveFlush b).state.kt = s.kt := by
  unfold State.serveFlush
  split <;> simp
@[simp] theorem State.serveFlush_cc (b : Byte) (s : State) :
    (s.serveFlush b).state.cc = s.cc := by
  unfold State.serveFlush
  split <;> simp
@[simp] theorem State.serveFlush_lhi (b : Byte) (s : State) :
    (s.serveFlush b).state.lhi = s.lhi := by
  unfold State.serveFlush
  split <;> simp
@[simp] theorem State.serveFlush_ci (b : Byte) (s : State) :
    (s.serveFlush b).state.ci = s.ci := by
  unfold State.serveFlush
  split <;> simp
@[simp] theorem State.serveFlush_cec (b : Byte) (s : State) :
    (s.serveFlush b).state.cec = s.cec := by
  unfold State.serveFlush
  split <;> simp
@[simp] theorem State.serveFlush_tm (b : Byte) (s : State) :
    (s.serveFlush b).state.tm = s.tm := by
  unfold State.serveFlush
  split <;> simp
@[simp] theorem State.serveFlush_ess (b : Byte) (s : State) :
    (s.serveFlush b).state.ess = s.ess := by
  unfold State.serveFlush
  split <;> simp
@[simp] theorem State.serveFlush_ec (b : Byte) (s : State) :
    (s.serveFlush b).state.ec = s.ec := by
  unfold State.serveFlush
  split <;> simp
@[simp] theorem State.serveFlush_pwr (b : Byte) (s : State) :
    (s.serveFlush b).state.pwr = s.pwr := by
  unfold State.serveFlush
  split <;> simp
@[simp] theorem State.serveFlush_pins (b : Byte) (s : State) :
    (s.serveFlush b).state.pins = s.pins := by
  unfold State.serveFlush
  split <;> simp
@[simp] theorem State.serveFlush_pending (b : Byte) (s : State) :
    (s.serveFlush b).state.pending = s.pending := by
  unfold State.serveFlush
  split <;> simp

@[simp] theorem State.serveSlotMap_kt (b : Byte) (l : List Byte) (s : State) :
    (s.serveSlotMap b l).state.kt = s.kt := by
  unfold State.serveSlotMap
  split <;> simp
@[simp] theorem State.serveSlotMap_su (b : Byte) (l : List Byte) (s : State) :
    (s.serveSlotMap b l).state.su = s.su := by
  unfold State.serveSlotMap
  split <;> simp
@[simp] theorem State.serveSlotMap_cc (b : Byte) (l : List Byte) (s : State) :
    (s.serveSlotMap b l).state.cc = s.cc := by
  unfold State.serveSlotMap
  split <;> simp
@[simp] theorem State.serveSlotMap_channels (b : Byte) (l : List Byte) (s : State) :
    (s.serveSlotMap b l).state.channels = s.channels := by
  unfold State.serveSlotMap
  split <;> simp
@[simp] theorem State.serveSlotMap_ci (b : Byte) (l : List Byte) (s : State) :
    (s.serveSlotMap b l).state.ci = s.ci := by
  unfold State.serveSlotMap
  split <;> simp
@[simp] theorem State.serveSlotMap_cec (b : Byte) (l : List Byte) (s : State) :
    (s.serveSlotMap b l).state.cec = s.cec := by
  unfold State.serveSlotMap
  split <;> simp
@[simp] theorem State.serveSlotMap_tm (b : Byte) (l : List Byte) (s : State) :
    (s.serveSlotMap b l).state.tm = s.tm := by
  unfold State.serveSlotMap
  split <;> simp
@[simp] theorem State.serveSlotMap_ess (b : Byte) (l : List Byte) (s : State) :
    (s.serveSlotMap b l).state.ess = s.ess := by
  unfold State.serveSlotMap
  split <;> simp
@[simp] theorem State.serveSlotMap_ec (b : Byte) (l : List Byte) (s : State) :
    (s.serveSlotMap b l).state.ec = s.ec := by
  unfold State.serveSlotMap
  split <;> simp
@[simp] theorem State.serveSlotMap_pwr (b : Byte) (l : List Byte) (s : State) :
    (s.serveSlotMap b l).state.pwr = s.pwr := by
  unfold State.serveSlotMap
  split <;> simp
@[simp] theorem State.serveSlotMap_pins (b : Byte) (l : List Byte) (s : State) :
    (s.serveSlotMap b l).state.pins = s.pins := by
  unfold State.serveSlotMap
  split <;> simp
@[simp] theorem State.serveSlotMap_pending (b : Byte) (l : List Byte) (s : State) :
    (s.serveSlotMap b l).state.pending = s.pending := by
  unfold State.serveSlotMap
  split <;> simp

@[simp] theorem State.serveTimeout_kt (x : BitVec 16) (s : State) :
    (s.serveTimeout x).state.kt = s.kt := by
  unfold State.serveTimeout
  split <;> simp
@[simp] theorem State.serveTimeout_su (x : BitVec 16) (s : State) :
    (s.serveTimeout x).state.su = s.su := by
  unfold State.serveTimeout
  split <;> simp
@[simp] theorem State.serveTimeout_cc (x : BitVec 16) (s : State) :
    (s.serveTimeout x).state.cc = s.cc := by
  unfold State.serveTimeout
  split <;> simp
@[simp] theorem State.serveTimeout_channels (x : BitVec 16) (s : State) :
    (s.serveTimeout x).state.channels = s.channels := by
  unfold State.serveTimeout
  split <;> simp
@[simp] theorem State.serveTimeout_ci (x : BitVec 16) (s : State) :
    (s.serveTimeout x).state.ci = s.ci := by
  unfold State.serveTimeout
  split <;> simp
@[simp] theorem State.serveTimeout_cec (x : BitVec 16) (s : State) :
    (s.serveTimeout x).state.cec = s.cec := by
  unfold State.serveTimeout
  split <;> simp
@[simp] theorem State.serveTimeout_tm (x : BitVec 16) (s : State) :
    (s.serveTimeout x).state.tm = s.tm := by
  unfold State.serveTimeout
  split <;> simp
@[simp] theorem State.serveTimeout_ess (x : BitVec 16) (s : State) :
    (s.serveTimeout x).state.ess = s.ess := by
  unfold State.serveTimeout
  split <;> simp
@[simp] theorem State.serveTimeout_ec (x : BitVec 16) (s : State) :
    (s.serveTimeout x).state.ec = s.ec := by
  unfold State.serveTimeout
  split <;> simp
@[simp] theorem State.serveTimeout_pwr (x : BitVec 16) (s : State) :
    (s.serveTimeout x).state.pwr = s.pwr := by
  unfold State.serveTimeout
  split <;> simp
@[simp] theorem State.serveTimeout_pins (x : BitVec 16) (s : State) :
    (s.serveTimeout x).state.pins = s.pins := by
  unfold State.serveTimeout
  split <;> simp
@[simp] theorem State.serveTimeout_pending (x : BitVec 16) (s : State) :
    (s.serveTimeout x).state.pending = s.pending := by
  unfold State.serveTimeout
  split <;> simp

@[simp] theorem State.serveArm_kt (s : State) :
    s.serveArm.state.kt = s.kt := by
  unfold State.serveArm
  split <;> simp
@[simp] theorem State.serveArm_su (s : State) :
    s.serveArm.state.su = s.su := by
  unfold State.serveArm
  split <;> simp
@[simp] theorem State.serveArm_cc (s : State) :
    s.serveArm.state.cc = s.cc := by
  unfold State.serveArm
  split <;> simp
@[simp] theorem State.serveArm_channels (s : State) :
    s.serveArm.state.channels = s.channels := by
  unfold State.serveArm
  split <;> simp
@[simp] theorem State.serveArm_lhi (s : State) :
    s.serveArm.state.lhi = s.lhi := by
  unfold State.serveArm
  split <;> simp
@[simp] theorem State.serveArm_cec (s : State) :
    s.serveArm.state.cec = s.cec := by
  unfold State.serveArm
  split <;> simp
@[simp] theorem State.serveArm_ess (s : State) :
    s.serveArm.state.ess = s.ess := by
  unfold State.serveArm
  split <;> simp
@[simp] theorem State.serveArm_ec (s : State) :
    s.serveArm.state.ec = s.ec := by
  unfold State.serveArm
  split <;> simp
@[simp] theorem State.serveArm_pwr (s : State) :
    s.serveArm.state.pwr = s.pwr := by
  unfold State.serveArm
  split <;> simp
@[simp] theorem State.serveArm_pins (s : State) :
    s.serveArm.state.pins = s.pins := by
  unfold State.serveArm
  split <;> simp
@[simp] theorem State.serveArm_pending (s : State) :
    s.serveArm.state.pending = s.pending := by
  unfold State.serveArm
  split <;> simp

@[simp] theorem State.serveDisarm_kt (s : State) :
    s.serveDisarm.state.kt = s.kt := by
  unfold State.serveDisarm
  split <;> simp
@[simp] theorem State.serveDisarm_su (s : State) :
    s.serveDisarm.state.su = s.su := by
  unfold State.serveDisarm
  split <;> simp
@[simp] theorem State.serveDisarm_cc (s : State) :
    s.serveDisarm.state.cc = s.cc := by
  unfold State.serveDisarm
  split <;> simp
@[simp] theorem State.serveDisarm_channels (s : State) :
    s.serveDisarm.state.channels = s.channels := by
  unfold State.serveDisarm
  split <;> simp
@[simp] theorem State.serveDisarm_lhi (s : State) :
    s.serveDisarm.state.lhi = s.lhi := by
  unfold State.serveDisarm
  split <;> simp
@[simp] theorem State.serveDisarm_ci (s : State) :
    s.serveDisarm.state.ci = s.ci := by
  unfold State.serveDisarm
  split <;> simp
@[simp] theorem State.serveDisarm_cec (s : State) :
    s.serveDisarm.state.cec = s.cec := by
  unfold State.serveDisarm
  split <;> simp
@[simp] theorem State.serveDisarm_ess (s : State) :
    s.serveDisarm.state.ess = s.ess := by
  unfold State.serveDisarm
  split <;> simp
@[simp] theorem State.serveDisarm_ec (s : State) :
    s.serveDisarm.state.ec = s.ec := by
  unfold State.serveDisarm
  split <;> simp
@[simp] theorem State.serveDisarm_pwr (s : State) :
    s.serveDisarm.state.pwr = s.pwr := by
  unfold State.serveDisarm
  split <;> simp
@[simp] theorem State.serveDisarm_pins (s : State) :
    s.serveDisarm.state.pins = s.pins := by
  unfold State.serveDisarm
  split <;> simp
@[simp] theorem State.serveDisarm_pending (s : State) :
    s.serveDisarm.state.pending = s.pending := by
  unfold State.serveDisarm
  split <;> simp

@[simp] theorem State.serveMesh_kt (n : Byte) (w : BitVec 16) (k : Byte) (d : Byte) (s : State) :
    (s.serveMesh n w k d).state.kt = s.kt := by
  unfold State.serveMesh
  repeat' split
  all_goals simp
@[simp] theorem State.serveMesh_su (n : Byte) (w : BitVec 16) (k : Byte) (d : Byte) (s : State) :
    (s.serveMesh n w k d).state.su = s.su := by
  unfold State.serveMesh
  repeat' split
  all_goals simp
@[simp] theorem State.serveMesh_cc (n : Byte) (w : BitVec 16) (k : Byte) (d : Byte) (s : State) :
    (s.serveMesh n w k d).state.cc = s.cc := by
  unfold State.serveMesh
  repeat' split
  all_goals simp
@[simp] theorem State.serveMesh_channels (n : Byte) (w : BitVec 16) (k : Byte) (d : Byte)
    (s : State) :
    (s.serveMesh n w k d).state.channels = s.channels := by
  unfold State.serveMesh
  repeat' split
  all_goals simp
@[simp] theorem State.serveMesh_lhi (n : Byte) (w : BitVec 16) (k : Byte) (d : Byte) (s : State) :
    (s.serveMesh n w k d).state.lhi = s.lhi := by
  unfold State.serveMesh
  repeat' split
  all_goals simp
@[simp] theorem State.serveMesh_ci (n : Byte) (w : BitVec 16) (k : Byte) (d : Byte) (s : State) :
    (s.serveMesh n w k d).state.ci = s.ci := by
  unfold State.serveMesh
  repeat' split
  all_goals simp
@[simp] theorem State.serveMesh_cec (n : Byte) (w : BitVec 16) (k : Byte) (d : Byte) (s : State) :
    (s.serveMesh n w k d).state.cec = s.cec := by
  unfold State.serveMesh
  repeat' split
  all_goals simp
@[simp] theorem State.serveMesh_ess (n : Byte) (w : BitVec 16) (k : Byte) (d : Byte) (s : State) :
    (s.serveMesh n w k d).state.ess = s.ess := by
  unfold State.serveMesh
  repeat' split
  all_goals simp
@[simp] theorem State.serveMesh_ec (n : Byte) (w : BitVec 16) (k : Byte) (d : Byte) (s : State) :
    (s.serveMesh n w k d).state.ec = s.ec := by
  unfold State.serveMesh
  repeat' split
  all_goals simp
@[simp] theorem State.serveMesh_pwr (n : Byte) (w : BitVec 16) (k : Byte) (d : Byte) (s : State) :
    (s.serveMesh n w k d).state.pwr = s.pwr := by
  unfold State.serveMesh
  repeat' split
  all_goals simp
@[simp] theorem State.serveMesh_pins (n : Byte) (w : BitVec 16) (k : Byte) (d : Byte) (s : State) :
    (s.serveMesh n w k d).state.pins = s.pins := by
  unfold State.serveMesh
  repeat' split
  all_goals simp
@[simp] theorem State.serveMesh_pending (n : Byte) (w : BitVec 16) (k : Byte) (d : Byte)
    (s : State) :
    (s.serveMesh n w k d).state.pending = s.pending := by
  unfold State.serveMesh
  repeat' split
  all_goals simp

@[simp] theorem State.serveAck_kt (s : State) :
    s.serveAck.state.kt = s.kt := by
  unfold State.serveAck
  split <;> simp
@[simp] theorem State.serveAck_su (s : State) :
    s.serveAck.state.su = s.su := by
  unfold State.serveAck
  split <;> simp
@[simp] theorem State.serveAck_cc (s : State) :
    s.serveAck.state.cc = s.cc := by
  unfold State.serveAck
  split <;> simp
@[simp] theorem State.serveAck_channels (s : State) :
    s.serveAck.state.channels = s.channels := by
  unfold State.serveAck
  split <;> simp
@[simp] theorem State.serveAck_lhi (s : State) :
    s.serveAck.state.lhi = s.lhi := by
  unfold State.serveAck
  split <;> simp
@[simp] theorem State.serveAck_ci (s : State) :
    s.serveAck.state.ci = s.ci := by
  unfold State.serveAck
  split <;> simp
@[simp] theorem State.serveAck_cec (s : State) :
    s.serveAck.state.cec = s.cec := by
  unfold State.serveAck
  split <;> simp
@[simp] theorem State.serveAck_ess (s : State) :
    s.serveAck.state.ess = s.ess := by
  unfold State.serveAck
  split <;> simp
@[simp] theorem State.serveAck_pwr (s : State) :
    s.serveAck.state.pwr = s.pwr := by
  unfold State.serveAck
  split <;> simp
@[simp] theorem State.serveAck_pins (s : State) :
    s.serveAck.state.pins = s.pins := by
  unfold State.serveAck
  split <;> simp
@[simp] theorem State.serveAck_pending (s : State) :
    s.serveAck.state.pending = s.pending := by
  unfold State.serveAck
  split <;> simp

@[simp] theorem State.serveSupply_kt (a : Byte) (b : Byte) (s : State) :
    (s.serveSupply a b).state.kt = s.kt := by
  unfold State.serveSupply
  split <;> simp
@[simp] theorem State.serveSupply_su (a : Byte) (b : Byte) (s : State) :
    (s.serveSupply a b).state.su = s.su := by
  unfold State.serveSupply
  split <;> simp
@[simp] theorem State.serveSupply_cc (a : Byte) (b : Byte) (s : State) :
    (s.serveSupply a b).state.cc = s.cc := by
  unfold State.serveSupply
  split <;> simp
@[simp] theorem State.serveSupply_channels (a : Byte) (b : Byte) (s : State) :
    (s.serveSupply a b).state.channels = s.channels := by
  unfold State.serveSupply
  split <;> simp
@[simp] theorem State.serveSupply_lhi (a : Byte) (b : Byte) (s : State) :
    (s.serveSupply a b).state.lhi = s.lhi := by
  unfold State.serveSupply
  split <;> simp
@[simp] theorem State.serveSupply_ci (a : Byte) (b : Byte) (s : State) :
    (s.serveSupply a b).state.ci = s.ci := by
  unfold State.serveSupply
  split <;> simp
@[simp] theorem State.serveSupply_cec (a : Byte) (b : Byte) (s : State) :
    (s.serveSupply a b).state.cec = s.cec := by
  unfold State.serveSupply
  split <;> simp
@[simp] theorem State.serveSupply_tm (a : Byte) (b : Byte) (s : State) :
    (s.serveSupply a b).state.tm = s.tm := by
  unfold State.serveSupply
  split <;> simp
@[simp] theorem State.serveSupply_ec (a : Byte) (b : Byte) (s : State) :
    (s.serveSupply a b).state.ec = s.ec := by
  unfold State.serveSupply
  split <;> simp
@[simp] theorem State.serveSupply_pwr (a : Byte) (b : Byte) (s : State) :
    (s.serveSupply a b).state.pwr = s.pwr := by
  unfold State.serveSupply
  split <;> simp
@[simp] theorem State.serveSupply_pins (a : Byte) (b : Byte) (s : State) :
    (s.serveSupply a b).state.pins = s.pins := by
  unfold State.serveSupply
  split <;> simp
@[simp] theorem State.serveSupply_pending (a : Byte) (b : Byte) (s : State) :
    (s.serveSupply a b).state.pending = s.pending := by
  unfold State.serveSupply
  split <;> simp

@[simp] theorem State.serveEnrol_kt (n : Byte) (k : Key) (v : CheckValue) (s : State) :
    (s.serveEnrol n k v).state.kt = s.kt := by
  unfold State.serveEnrol
  repeat' split
  all_goals simp
@[simp] theorem State.serveEnrol_su (n : Byte) (k : Key) (v : CheckValue) (s : State) :
    (s.serveEnrol n k v).state.su = s.su := by
  unfold State.serveEnrol
  repeat' split
  all_goals simp
@[simp] theorem State.serveEnrol_cc (n : Byte) (k : Key) (v : CheckValue) (s : State) :
    (s.serveEnrol n k v).state.cc = s.cc := by
  unfold State.serveEnrol
  repeat' split
  all_goals simp
@[simp] theorem State.serveEnrol_channels (n : Byte) (k : Key) (v : CheckValue) (s : State) :
    (s.serveEnrol n k v).state.channels = s.channels := by
  unfold State.serveEnrol
  repeat' split
  all_goals simp
@[simp] theorem State.serveEnrol_lhi (n : Byte) (k : Key) (v : CheckValue) (s : State) :
    (s.serveEnrol n k v).state.lhi = s.lhi := by
  unfold State.serveEnrol
  repeat' split
  all_goals simp
@[simp] theorem State.serveEnrol_cec (n : Byte) (k : Key) (v : CheckValue) (s : State) :
    (s.serveEnrol n k v).state.cec = s.cec := by
  unfold State.serveEnrol
  repeat' split
  all_goals simp
@[simp] theorem State.serveEnrol_tm (n : Byte) (k : Key) (v : CheckValue) (s : State) :
    (s.serveEnrol n k v).state.tm = s.tm := by
  unfold State.serveEnrol
  repeat' split
  all_goals simp
@[simp] theorem State.serveEnrol_ess (n : Byte) (k : Key) (v : CheckValue) (s : State) :
    (s.serveEnrol n k v).state.ess = s.ess := by
  unfold State.serveEnrol
  repeat' split
  all_goals simp
@[simp] theorem State.serveEnrol_ec (n : Byte) (k : Key) (v : CheckValue) (s : State) :
    (s.serveEnrol n k v).state.ec = s.ec := by
  unfold State.serveEnrol
  repeat' split
  all_goals simp
@[simp] theorem State.serveEnrol_pwr (n : Byte) (k : Key) (v : CheckValue) (s : State) :
    (s.serveEnrol n k v).state.pwr = s.pwr := by
  unfold State.serveEnrol
  repeat' split
  all_goals simp
@[simp] theorem State.serveEnrol_pins (n : Byte) (k : Key) (v : CheckValue) (s : State) :
    (s.serveEnrol n k v).state.pins = s.pins := by
  unfold State.serveEnrol
  repeat' split
  all_goals simp
@[simp] theorem State.serveEnrol_pending (n : Byte) (k : Key) (v : CheckValue) (s : State) :
    (s.serveEnrol n k v).state.pending = s.pending := by
  unfold State.serveEnrol
  repeat' split
  all_goals simp

@[simp] theorem State.serveRemove_kt (n : Byte) (s : State) :
    (s.serveRemove n).state.kt = s.kt := by
  unfold State.serveRemove
  repeat' split
  all_goals simp
@[simp] theorem State.serveRemove_su (n : Byte) (s : State) :
    (s.serveRemove n).state.su = s.su := by
  unfold State.serveRemove
  repeat' split
  all_goals simp
@[simp] theorem State.serveRemove_cc (n : Byte) (s : State) :
    (s.serveRemove n).state.cc = s.cc := by
  unfold State.serveRemove
  repeat' split
  all_goals simp
@[simp] theorem State.serveRemove_channels (n : Byte) (s : State) :
    (s.serveRemove n).state.channels = s.channels := by
  unfold State.serveRemove
  repeat' split
  all_goals simp
@[simp] theorem State.serveRemove_lhi (n : Byte) (s : State) :
    (s.serveRemove n).state.lhi = s.lhi := by
  unfold State.serveRemove
  repeat' split
  all_goals simp
@[simp] theorem State.serveRemove_cec (n : Byte) (s : State) :
    (s.serveRemove n).state.cec = s.cec := by
  unfold State.serveRemove
  repeat' split
  all_goals simp
@[simp] theorem State.serveRemove_tm (n : Byte) (s : State) :
    (s.serveRemove n).state.tm = s.tm := by
  unfold State.serveRemove
  repeat' split
  all_goals simp
@[simp] theorem State.serveRemove_ess (n : Byte) (s : State) :
    (s.serveRemove n).state.ess = s.ess := by
  unfold State.serveRemove
  repeat' split
  all_goals simp
@[simp] theorem State.serveRemove_ec (n : Byte) (s : State) :
    (s.serveRemove n).state.ec = s.ec := by
  unfold State.serveRemove
  repeat' split
  all_goals simp
@[simp] theorem State.serveRemove_pwr (n : Byte) (s : State) :
    (s.serveRemove n).state.pwr = s.pwr := by
  unfold State.serveRemove
  repeat' split
  all_goals simp
@[simp] theorem State.serveRemove_pins (n : Byte) (s : State) :
    (s.serveRemove n).state.pins = s.pins := by
  unfold State.serveRemove
  repeat' split
  all_goals simp
@[simp] theorem State.serveRemove_pending (n : Byte) (s : State) :
    (s.serveRemove n).state.pending = s.pending := by
  unfold State.serveRemove
  repeat' split
  all_goals simp

@[simp] theorem State.serveUnlock_kt (n : Byte) (s : State) :
    (s.serveUnlock n).state.kt = s.kt := by
  unfold State.serveUnlock
  repeat' split
  all_goals simp
@[simp] theorem State.serveUnlock_su (n : Byte) (s : State) :
    (s.serveUnlock n).state.su = s.su := by
  unfold State.serveUnlock
  repeat' split
  all_goals simp
@[simp] theorem State.serveUnlock_cc (n : Byte) (s : State) :
    (s.serveUnlock n).state.cc = s.cc := by
  unfold State.serveUnlock
  repeat' split
  all_goals simp
@[simp] theorem State.serveUnlock_channels (n : Byte) (s : State) :
    (s.serveUnlock n).state.channels = s.channels := by
  unfold State.serveUnlock
  repeat' split
  all_goals simp
@[simp] theorem State.serveUnlock_lhi (n : Byte) (s : State) :
    (s.serveUnlock n).state.lhi = s.lhi := by
  unfold State.serveUnlock
  repeat' split
  all_goals simp
@[simp] theorem State.serveUnlock_cec (n : Byte) (s : State) :
    (s.serveUnlock n).state.cec = s.cec := by
  unfold State.serveUnlock
  repeat' split
  all_goals simp
@[simp] theorem State.serveUnlock_tm (n : Byte) (s : State) :
    (s.serveUnlock n).state.tm = s.tm := by
  unfold State.serveUnlock
  repeat' split
  all_goals simp
@[simp] theorem State.serveUnlock_ess (n : Byte) (s : State) :
    (s.serveUnlock n).state.ess = s.ess := by
  unfold State.serveUnlock
  repeat' split
  all_goals simp
@[simp] theorem State.serveUnlock_ec (n : Byte) (s : State) :
    (s.serveUnlock n).state.ec = s.ec := by
  unfold State.serveUnlock
  repeat' split
  all_goals simp
@[simp] theorem State.serveUnlock_pwr (n : Byte) (s : State) :
    (s.serveUnlock n).state.pwr = s.pwr := by
  unfold State.serveUnlock
  repeat' split
  all_goals simp
@[simp] theorem State.serveUnlock_pins (n : Byte) (s : State) :
    (s.serveUnlock n).state.pins = s.pins := by
  unfold State.serveUnlock
  repeat' split
  all_goals simp
@[simp] theorem State.serveUnlock_pending (n : Byte) (s : State) :
    (s.serveUnlock n).state.pending = s.pending := by
  unfold State.serveUnlock
  repeat' split
  all_goals simp

@[simp] theorem State.serveWindow_kt (x : BitVec 16) (s : State) :
    (s.serveWindow x).state.kt = s.kt := by
  unfold State.serveWindow
  split <;> simp
@[simp] theorem State.serveWindow_su (x : BitVec 16) (s : State) :
    (s.serveWindow x).state.su = s.su := by
  unfold State.serveWindow
  split <;> simp
@[simp] theorem State.serveWindow_cc (x : BitVec 16) (s : State) :
    (s.serveWindow x).state.cc = s.cc := by
  unfold State.serveWindow
  split <;> simp
@[simp] theorem State.serveWindow_channels (x : BitVec 16) (s : State) :
    (s.serveWindow x).state.channels = s.channels := by
  unfold State.serveWindow
  split <;> simp
@[simp] theorem State.serveWindow_lhi (x : BitVec 16) (s : State) :
    (s.serveWindow x).state.lhi = s.lhi := by
  unfold State.serveWindow
  split <;> simp
@[simp] theorem State.serveWindow_cec (x : BitVec 16) (s : State) :
    (s.serveWindow x).state.cec = s.cec := by
  unfold State.serveWindow
  split <;> simp
@[simp] theorem State.serveWindow_tm (x : BitVec 16) (s : State) :
    (s.serveWindow x).state.tm = s.tm := by
  unfold State.serveWindow
  split <;> simp
@[simp] theorem State.serveWindow_ess (x : BitVec 16) (s : State) :
    (s.serveWindow x).state.ess = s.ess := by
  unfold State.serveWindow
  split <;> simp
@[simp] theorem State.serveWindow_ec (x : BitVec 16) (s : State) :
    (s.serveWindow x).state.ec = s.ec := by
  unfold State.serveWindow
  split <;> simp
@[simp] theorem State.serveWindow_pwr (x : BitVec 16) (s : State) :
    (s.serveWindow x).state.pwr = s.pwr := by
  unfold State.serveWindow
  split <;> simp
@[simp] theorem State.serveWindow_pins (x : BitVec 16) (s : State) :
    (s.serveWindow x).state.pins = s.pins := by
  unfold State.serveWindow
  split <;> simp
@[simp] theorem State.serveWindow_pending (x : BitVec 16) (s : State) :
    (s.serveWindow x).state.pending = s.pending := by
  unfold State.serveWindow
  split <;> simp

@[simp] theorem State.serveLogoff_kt (n : Byte) (s : State) :
    (s.serveLogoff n).state.kt = s.kt := by
  unfold State.serveLogoff
  repeat' split
  all_goals simp
@[simp] theorem State.serveLogoff_su (n : Byte) (s : State) :
    (s.serveLogoff n).state.su = s.su := by
  unfold State.serveLogoff
  repeat' split
  all_goals simp
@[simp] theorem State.serveLogoff_cc (n : Byte) (s : State) :
    (s.serveLogoff n).state.cc = s.cc := by
  unfold State.serveLogoff
  repeat' split
  all_goals simp
@[simp] theorem State.serveLogoff_channels (n : Byte) (s : State) :
    (s.serveLogoff n).state.channels = s.channels := by
  unfold State.serveLogoff
  repeat' split
  all_goals simp
@[simp] theorem State.serveLogoff_lhi (n : Byte) (s : State) :
    (s.serveLogoff n).state.lhi = s.lhi := by
  unfold State.serveLogoff
  repeat' split
  all_goals simp
@[simp] theorem State.serveLogoff_tm (n : Byte) (s : State) :
    (s.serveLogoff n).state.tm = s.tm := by
  unfold State.serveLogoff
  repeat' split
  all_goals simp
@[simp] theorem State.serveLogoff_ess (n : Byte) (s : State) :
    (s.serveLogoff n).state.ess = s.ess := by
  unfold State.serveLogoff
  repeat' split
  all_goals simp
@[simp] theorem State.serveLogoff_ec (n : Byte) (s : State) :
    (s.serveLogoff n).state.ec = s.ec := by
  unfold State.serveLogoff
  repeat' split
  all_goals simp
@[simp] theorem State.serveLogoff_pwr (n : Byte) (s : State) :
    (s.serveLogoff n).state.pwr = s.pwr := by
  unfold State.serveLogoff
  repeat' split
  all_goals simp
@[simp] theorem State.serveLogoff_pins (n : Byte) (s : State) :
    (s.serveLogoff n).state.pins = s.pins := by
  unfold State.serveLogoff
  repeat' split
  all_goals simp
@[simp] theorem State.serveLogoff_pending (n : Byte) (s : State) :
    (s.serveLogoff n).state.pending = s.pending := by
  unfold State.serveLogoff
  repeat' split
  all_goals simp

@[simp] theorem State.serveEnables_kt (x : BitVec 16) (s : State) :
    (s.serveEnables x).state.kt = s.kt := by
  unfold State.serveEnables
  split <;> simp
@[simp] theorem State.serveEnables_su (x : BitVec 16) (s : State) :
    (s.serveEnables x).state.su = s.su := by
  unfold State.serveEnables
  split <;> simp
@[simp] theorem State.serveEnables_cc (x : BitVec 16) (s : State) :
    (s.serveEnables x).state.cc = s.cc := by
  unfold State.serveEnables
  split <;> simp
@[simp] theorem State.serveEnables_channels (x : BitVec 16) (s : State) :
    (s.serveEnables x).state.channels = s.channels := by
  unfold State.serveEnables
  split <;> simp
@[simp] theorem State.serveEnables_lhi (x : BitVec 16) (s : State) :
    (s.serveEnables x).state.lhi = s.lhi := by
  unfold State.serveEnables
  split <;> simp
@[simp] theorem State.serveEnables_cec (x : BitVec 16) (s : State) :
    (s.serveEnables x).state.cec = s.cec := by
  unfold State.serveEnables
  split <;> simp
@[simp] theorem State.serveEnables_tm (x : BitVec 16) (s : State) :
    (s.serveEnables x).state.tm = s.tm := by
  unfold State.serveEnables
  split <;> simp
@[simp] theorem State.serveEnables_ess (x : BitVec 16) (s : State) :
    (s.serveEnables x).state.ess = s.ess := by
  unfold State.serveEnables
  split <;> simp
@[simp] theorem State.serveEnables_ec (x : BitVec 16) (s : State) :
    (s.serveEnables x).state.ec = s.ec := by
  unfold State.serveEnables
  split <;> simp
@[simp] theorem State.serveEnables_pwr (x : BitVec 16) (s : State) :
    (s.serveEnables x).state.pwr = s.pwr := by
  unfold State.serveEnables
  split <;> simp
@[simp] theorem State.serveEnables_pins (x : BitVec 16) (s : State) :
    (s.serveEnables x).state.pins = s.pins := by
  unfold State.serveEnables
  split <;> simp
@[simp] theorem State.serveEnables_pending (x : BitVec 16) (s : State) :
    (s.serveEnables x).state.pending = s.pending := by
  unfold State.serveEnables
  split <;> simp

@[simp] theorem State.serveChallenge_kt (x : Block) (s : State) :
    (s.serveChallenge x).state.kt = s.kt := by
  unfold State.serveChallenge
  split <;> simp
@[simp] theorem State.serveChallenge_su (x : Block) (s : State) :
    (s.serveChallenge x).state.su = s.su := by
  unfold State.serveChallenge
  split <;> simp
@[simp] theorem State.serveChallenge_cc (x : Block) (s : State) :
    (s.serveChallenge x).state.cc = s.cc := by
  unfold State.serveChallenge
  split <;> simp
@[simp] theorem State.serveChallenge_channels (x : Block) (s : State) :
    (s.serveChallenge x).state.channels = s.channels := by
  unfold State.serveChallenge
  split <;> simp
@[simp] theorem State.serveChallenge_lhi (x : Block) (s : State) :
    (s.serveChallenge x).state.lhi = s.lhi := by
  unfold State.serveChallenge
  split <;> simp
@[simp] theorem State.serveChallenge_cec (x : Block) (s : State) :
    (s.serveChallenge x).state.cec = s.cec := by
  unfold State.serveChallenge
  split <;> simp
@[simp] theorem State.serveChallenge_tm (x : Block) (s : State) :
    (s.serveChallenge x).state.tm = s.tm := by
  unfold State.serveChallenge
  split <;> simp
@[simp] theorem State.serveChallenge_ess (x : Block) (s : State) :
    (s.serveChallenge x).state.ess = s.ess := by
  unfold State.serveChallenge
  split <;> simp
@[simp] theorem State.serveChallenge_ec (x : Block) (s : State) :
    (s.serveChallenge x).state.ec = s.ec := by
  unfold State.serveChallenge
  split <;> simp
@[simp] theorem State.serveChallenge_pwr (x : Block) (s : State) :
    (s.serveChallenge x).state.pwr = s.pwr := by
  unfold State.serveChallenge
  split <;> simp
@[simp] theorem State.serveChallenge_pins (x : Block) (s : State) :
    (s.serveChallenge x).state.pins = s.pins := by
  unfold State.serveChallenge
  split <;> simp
@[simp] theorem State.serveChallenge_pending (x : Block) (s : State) :
    (s.serveChallenge x).state.pending = s.pending := by
  unfold State.serveChallenge
  split <;> simp

@[simp] theorem State.serveEvents_kt (s : State) :
    s.serveEvents.state.kt = s.kt := rfl
@[simp] theorem State.serveEvents_su (s : State) :
    s.serveEvents.state.su = s.su := rfl
@[simp] theorem State.serveEvents_cc (s : State) :
    s.serveEvents.state.cc = s.cc := rfl
@[simp] theorem State.serveEvents_channels (s : State) :
    s.serveEvents.state.channels = s.channels := rfl
@[simp] theorem State.serveEvents_lhi (s : State) :
    s.serveEvents.state.lhi = s.lhi := rfl
@[simp] theorem State.serveEvents_cec (s : State) :
    s.serveEvents.state.cec = s.cec := rfl
@[simp] theorem State.serveEvents_tm (s : State) :
    s.serveEvents.state.tm = s.tm := rfl
@[simp] theorem State.serveEvents_ess (s : State) :
    s.serveEvents.state.ess = s.ess := rfl
@[simp] theorem State.serveEvents_ec (s : State) :
    s.serveEvents.state.ec = s.ec := rfl
@[simp] theorem State.serveEvents_pwr (s : State) :
    s.serveEvents.state.pwr = s.pwr := rfl
@[simp] theorem State.serveEvents_pins (s : State) :
    s.serveEvents.state.pins = s.pins := rfl
@[simp] theorem State.serveEvents_pending (s : State) :
    s.serveEvents.state.pending = s.pending := rfl

@[simp] theorem State.serveReadEntry_kt (b : Byte) (s : State) :
    (s.serveReadEntry b).state.kt = s.kt := by
  unfold State.serveReadEntry
  split <;> simp
@[simp] theorem State.serveReadEntry_su (b : Byte) (s : State) :
    (s.serveReadEntry b).state.su = s.su := by
  unfold State.serveReadEntry
  split <;> simp
@[simp] theorem State.serveReadEntry_cc (b : Byte) (s : State) :
    (s.serveReadEntry b).state.cc = s.cc := by
  unfold State.serveReadEntry
  split <;> simp
@[simp] theorem State.serveReadEntry_channels (b : Byte) (s : State) :
    (s.serveReadEntry b).state.channels = s.channels := by
  unfold State.serveReadEntry
  split <;> simp
@[simp] theorem State.serveReadEntry_lhi (b : Byte) (s : State) :
    (s.serveReadEntry b).state.lhi = s.lhi := by
  unfold State.serveReadEntry
  split <;> simp
@[simp] theorem State.serveReadEntry_ci (b : Byte) (s : State) :
    (s.serveReadEntry b).state.ci = s.ci := by
  unfold State.serveReadEntry
  split <;> simp
@[simp] theorem State.serveReadEntry_cec (b : Byte) (s : State) :
    (s.serveReadEntry b).state.cec = s.cec := by
  unfold State.serveReadEntry
  split <;> simp
@[simp] theorem State.serveReadEntry_tm (b : Byte) (s : State) :
    (s.serveReadEntry b).state.tm = s.tm := by
  unfold State.serveReadEntry
  split <;> simp
@[simp] theorem State.serveReadEntry_ess (b : Byte) (s : State) :
    (s.serveReadEntry b).state.ess = s.ess := by
  unfold State.serveReadEntry
  split <;> simp
@[simp] theorem State.serveReadEntry_ec (b : Byte) (s : State) :
    (s.serveReadEntry b).state.ec = s.ec := by
  unfold State.serveReadEntry
  split <;> simp
@[simp] theorem State.serveReadEntry_pwr (b : Byte) (s : State) :
    (s.serveReadEntry b).state.pwr = s.pwr := by
  unfold State.serveReadEntry
  split <;> simp
@[simp] theorem State.serveReadEntry_pins (b : Byte) (s : State) :
    (s.serveReadEntry b).state.pins = s.pins := by
  unfold State.serveReadEntry
  split <;> simp
@[simp] theorem State.serveReadEntry_pending (b : Byte) (s : State) :
    (s.serveReadEntry b).state.pending = s.pending := by
  unfold State.serveReadEntry
  split <;> simp

@[simp] theorem State.serveReadChannel_kt (b : Byte) (s : State) :
    (s.serveReadChannel b).state.kt = s.kt := by
  unfold State.serveReadChannel
  split <;> simp
@[simp] theorem State.serveReadChannel_su (b : Byte) (s : State) :
    (s.serveReadChannel b).state.su = s.su := by
  unfold State.serveReadChannel
  split <;> simp
@[simp] theorem State.serveReadChannel_cc (b : Byte) (s : State) :
    (s.serveReadChannel b).state.cc = s.cc := by
  unfold State.serveReadChannel
  split <;> simp
@[simp] theorem State.serveReadChannel_channels (b : Byte) (s : State) :
    (s.serveReadChannel b).state.channels = s.channels := by
  unfold State.serveReadChannel
  split <;> simp
@[simp] theorem State.serveReadChannel_lhi (b : Byte) (s : State) :
    (s.serveReadChannel b).state.lhi = s.lhi := by
  unfold State.serveReadChannel
  split <;> simp
@[simp] theorem State.serveReadChannel_ci (b : Byte) (s : State) :
    (s.serveReadChannel b).state.ci = s.ci := by
  unfold State.serveReadChannel
  split <;> simp
@[simp] theorem State.serveReadChannel_cec (b : Byte) (s : State) :
    (s.serveReadChannel b).state.cec = s.cec := by
  unfold State.serveReadChannel
  split <;> simp
@[simp] theorem State.serveReadChannel_tm (b : Byte) (s : State) :
    (s.serveReadChannel b).state.tm = s.tm := by
  unfold State.serveReadChannel
  split <;> simp
@[simp] theorem State.serveReadChannel_ess (b : Byte) (s : State) :
    (s.serveReadChannel b).state.ess = s.ess := by
  unfold State.serveReadChannel
  split <;> simp
@[simp] theorem State.serveReadChannel_ec (b : Byte) (s : State) :
    (s.serveReadChannel b).state.ec = s.ec := by
  unfold State.serveReadChannel
  split <;> simp
@[simp] theorem State.serveReadChannel_pwr (b : Byte) (s : State) :
    (s.serveReadChannel b).state.pwr = s.pwr := by
  unfold State.serveReadChannel
  split <;> simp
@[simp] theorem State.serveReadChannel_pins (b : Byte) (s : State) :
    (s.serveReadChannel b).state.pins = s.pins := by
  unfold State.serveReadChannel
  split <;> simp
@[simp] theorem State.serveReadChannel_pending (b : Byte) (s : State) :
    (s.serveReadChannel b).state.pending = s.pending := by
  unfold State.serveReadChannel
  split <;> simp

@[simp] theorem State.serveMeasure_kt (s : State) :
    s.serveMeasure.state.kt = s.kt := by
  unfold State.serveMeasure
  dsimp only
  split <;> simp
@[simp] theorem State.serveMeasure_su (s : State) :
    s.serveMeasure.state.su = s.su := by
  unfold State.serveMeasure
  dsimp only
  split <;> simp
@[simp] theorem State.serveMeasure_cc (s : State) :
    s.serveMeasure.state.cc = s.cc := by
  unfold State.serveMeasure
  dsimp only
  split <;> simp
@[simp] theorem State.serveMeasure_channels (s : State) :
    s.serveMeasure.state.channels = s.channels := by
  unfold State.serveMeasure
  dsimp only
  split <;> simp
@[simp] theorem State.serveMeasure_lhi (s : State) :
    s.serveMeasure.state.lhi = s.lhi := by
  unfold State.serveMeasure
  dsimp only
  split <;> simp
@[simp] theorem State.serveMeasure_cec (s : State) :
    s.serveMeasure.state.cec = s.cec := by
  unfold State.serveMeasure
  dsimp only
  split <;> simp
@[simp] theorem State.serveMeasure_ess (s : State) :
    s.serveMeasure.state.ess = s.ess := by
  unfold State.serveMeasure
  dsimp only
  split <;> simp
@[simp] theorem State.serveMeasure_ec (s : State) :
    s.serveMeasure.state.ec = s.ec := by
  unfold State.serveMeasure
  dsimp only
  split <;> simp
@[simp] theorem State.serveMeasure_pwr (s : State) :
    s.serveMeasure.state.pwr = s.pwr := by
  unfold State.serveMeasure
  dsimp only
  split <;> simp
@[simp] theorem State.serveMeasure_pins (s : State) :
    s.serveMeasure.state.pins = s.pins := by
  unfold State.serveMeasure
  dsimp only
  split <;> simp
@[simp] theorem State.serveMeasure_pending (s : State) :
    s.serveMeasure.state.pending = s.pending := by
  unfold State.serveMeasure
  dsimp only
  split <;> simp

@[simp] theorem State.serveCancel_kt (s : State) :
    s.serveCancel.state.kt = s.kt := by
  unfold State.serveCancel
  split <;> simp
@[simp] theorem State.serveCancel_su (s : State) :
    s.serveCancel.state.su = s.su := by
  unfold State.serveCancel
  split <;> simp
@[simp] theorem State.serveCancel_cc (s : State) :
    s.serveCancel.state.cc = s.cc := by
  unfold State.serveCancel
  split <;> simp
@[simp] theorem State.serveCancel_channels (s : State) :
    s.serveCancel.state.channels = s.channels := by
  unfold State.serveCancel
  split <;> simp
@[simp] theorem State.serveCancel_lhi (s : State) :
    s.serveCancel.state.lhi = s.lhi := by
  unfold State.serveCancel
  split <;> simp
@[simp] theorem State.serveCancel_ci (s : State) :
    s.serveCancel.state.ci = s.ci := by
  unfold State.serveCancel
  split <;> simp
@[simp] theorem State.serveCancel_tm (s : State) :
    s.serveCancel.state.tm = s.tm := by
  unfold State.serveCancel
  split <;> simp
@[simp] theorem State.serveCancel_ess (s : State) :
    s.serveCancel.state.ess = s.ess := by
  unfold State.serveCancel
  split <;> simp
@[simp] theorem State.serveCancel_ec (s : State) :
    s.serveCancel.state.ec = s.ec := by
  unfold State.serveCancel
  split <;> simp
@[simp] theorem State.serveCancel_pwr (s : State) :
    s.serveCancel.state.pwr = s.pwr := by
  unfold State.serveCancel
  split <;> simp
@[simp] theorem State.serveCancel_pins (s : State) :
    s.serveCancel.state.pins = s.pins := by
  unfold State.serveCancel
  split <;> simp
@[simp] theorem State.serveCancel_pending (s : State) :
    s.serveCancel.state.pending = s.pending := by
  unfold State.serveCancel
  split <;> simp

@[simp] theorem State.serveOpen_kt (k t g n : Byte) (i : IssuerTag)
    (rt ll : Byte) (l : List Byte) (s : State) :
    (s.serveOpen k t g n i rt ll l).state.kt = s.kt := by
  unfold State.serveOpen
  repeat' split
  all_goals simp
@[simp] theorem State.serveOpen_su (k t g n : Byte) (i : IssuerTag)
    (rt ll : Byte) (l : List Byte) (s : State) :
    (s.serveOpen k t g n i rt ll l).state.su = s.su := by
  unfold State.serveOpen
  repeat' split
  all_goals simp
@[simp] theorem State.serveOpen_cc (k t g n : Byte) (i : IssuerTag)
    (rt ll : Byte) (l : List Byte) (s : State) :
    (s.serveOpen k t g n i rt ll l).state.cc = s.cc := by
  unfold State.serveOpen
  repeat' split
  all_goals simp
@[simp] theorem State.serveOpen_channels (k t g n : Byte) (i : IssuerTag)
    (rt ll : Byte) (l : List Byte) (s : State) :
    (s.serveOpen k t g n i rt ll l).state.channels = s.channels := by
  unfold State.serveOpen
  repeat' split
  all_goals simp
@[simp] theorem State.serveOpen_lhi (k t g n : Byte) (i : IssuerTag)
    (rt ll : Byte) (l : List Byte) (s : State) :
    (s.serveOpen k t g n i rt ll l).state.lhi = s.lhi := by
  unfold State.serveOpen
  repeat' split
  all_goals simp
@[simp] theorem State.serveOpen_ci (k t g n : Byte) (i : IssuerTag)
    (rt ll : Byte) (l : List Byte) (s : State) :
    (s.serveOpen k t g n i rt ll l).state.ci = s.ci := by
  unfold State.serveOpen
  repeat' split
  all_goals simp
@[simp] theorem State.serveOpen_tm (k t g n : Byte) (i : IssuerTag)
    (rt ll : Byte) (l : List Byte) (s : State) :
    (s.serveOpen k t g n i rt ll l).state.tm = s.tm := by
  unfold State.serveOpen
  repeat' split
  all_goals simp
@[simp] theorem State.serveOpen_ess (k t g n : Byte) (i : IssuerTag)
    (rt ll : Byte) (l : List Byte) (s : State) :
    (s.serveOpen k t g n i rt ll l).state.ess = s.ess := by
  unfold State.serveOpen
  repeat' split
  all_goals simp
@[simp] theorem State.serveOpen_ec (k t g n : Byte) (i : IssuerTag)
    (rt ll : Byte) (l : List Byte) (s : State) :
    (s.serveOpen k t g n i rt ll l).state.ec = s.ec := by
  unfold State.serveOpen
  repeat' split
  all_goals simp
@[simp] theorem State.serveOpen_pwr (k t g n : Byte) (i : IssuerTag)
    (rt ll : Byte) (l : List Byte) (s : State) :
    (s.serveOpen k t g n i rt ll l).state.pwr = s.pwr := by
  unfold State.serveOpen
  repeat' split
  all_goals simp
@[simp] theorem State.serveOpen_pins (k t g n : Byte) (i : IssuerTag)
    (rt ll : Byte) (l : List Byte) (s : State) :
    (s.serveOpen k t g n i rt ll l).state.pins = s.pins := by
  unfold State.serveOpen
  repeat' split
  all_goals simp
@[simp] theorem State.serveOpen_pending (k t g n : Byte) (i : IssuerTag)
    (rt ll : Byte) (l : List Byte) (s : State) :
    (s.serveOpen k t g n i rt ll l).state.pending = s.pending := by
  unfold State.serveOpen
  repeat' split
  all_goals simp

end Sys2Proof.Machine
end

