-- ==== Sys2Proof/Laws/Rows.lean ====
section
/-! SUPPORT. What the state changes inside the rows of the opcode table leave as it stands: the console
port, service and claims, the highway, sensing, the supply. -/

namespace Sys2Proof.Machine

/-! ## The console port (R91 to R93) -/

@[simp] theorem State.withDecided_kt (x : Option ConsoleStatus) (s : State) :
    (s.withDecided x).kt = s.kt := rfl
@[simp] theorem State.withDecided_su (x : Option ConsoleStatus) (s : State) :
    (s.withDecided x).su = s.su := rfl
@[simp] theorem State.withDecided_cc (x : Option ConsoleStatus) (s : State) :
    (s.withDecided x).cc = s.cc := rfl
@[simp] theorem State.withDecided_channels (x : Option ConsoleStatus) (s : State) :
    (s.withDecided x).channels = s.channels := rfl
@[simp] theorem State.withDecided_lhi (x : Option ConsoleStatus) (s : State) :
    (s.withDecided x).lhi = s.lhi := rfl
@[simp] theorem State.withDecided_cec (x : Option ConsoleStatus) (s : State) :
    (s.withDecided x).cec = s.cec := rfl
@[simp] theorem State.withDecided_tm (x : Option ConsoleStatus) (s : State) :
    (s.withDecided x).tm = s.tm := rfl
@[simp] theorem State.withDecided_ess (x : Option ConsoleStatus) (s : State) :
    (s.withDecided x).ess = s.ess := rfl
@[simp] theorem State.withDecided_ec (x : Option ConsoleStatus) (s : State) :
    (s.withDecided x).ec = s.ec := rfl
@[simp] theorem State.withDecided_pwr (x : Option ConsoleStatus) (s : State) :
    (s.withDecided x).pwr = s.pwr := rfl
@[simp] theorem State.withDecided_pins (x : Option ConsoleStatus) (s : State) :
    (s.withDecided x).pins = s.pins := rfl
@[simp] theorem State.withDecided_pending (x : Option ConsoleStatus) (s : State) :
    (s.withDecided x).pending = s.pending := rfl
@[simp] theorem State.withDecided_ci (x : Option ConsoleStatus) (s : State) :
    (s.withDecided x).ci = { s.ci with decided := x } := rfl

/-! What OPEN_CEREMONY does at its take: the context, and the outcome decided (R115). -/

theorem State.startOpen_ci (k t g n : Byte) (i : IssuerTag) (rt ll : Byte) (l : List Byte) (s : State) :
    (s.startOpen k t g n i rt ll l).ci =
      { s.ci with decided := some (s.serveOpen k t g n i rt ll l).status } := by
  simp [State.startOpen]
@[simp] theorem State.startOpen_kt (k t g n : Byte) (i : IssuerTag) (rt ll : Byte)
    (l : List Byte) (s : State) : (s.startOpen k t g n i rt ll l).kt = s.kt := by
  simp [State.startOpen]
@[simp] theorem State.startOpen_su (k t g n : Byte) (i : IssuerTag) (rt ll : Byte)
    (l : List Byte) (s : State) : (s.startOpen k t g n i rt ll l).su = s.su := by
  simp [State.startOpen]
@[simp] theorem State.startOpen_cc (k t g n : Byte) (i : IssuerTag) (rt ll : Byte)
    (l : List Byte) (s : State) : (s.startOpen k t g n i rt ll l).cc = s.cc := by
  simp [State.startOpen]
@[simp] theorem State.startOpen_channels (k t g n : Byte) (i : IssuerTag) (rt ll : Byte)
    (l : List Byte) (s : State) : (s.startOpen k t g n i rt ll l).channels = s.channels := by
  simp [State.startOpen]
@[simp] theorem State.startOpen_lhi (k t g n : Byte) (i : IssuerTag) (rt ll : Byte)
    (l : List Byte) (s : State) : (s.startOpen k t g n i rt ll l).lhi = s.lhi := by
  simp [State.startOpen]
@[simp] theorem State.startOpen_tm (k t g n : Byte) (i : IssuerTag) (rt ll : Byte)
    (l : List Byte) (s : State) : (s.startOpen k t g n i rt ll l).tm = s.tm := by
  simp [State.startOpen]
@[simp] theorem State.startOpen_ess (k t g n : Byte) (i : IssuerTag) (rt ll : Byte)
    (l : List Byte) (s : State) : (s.startOpen k t g n i rt ll l).ess = s.ess := by
  simp [State.startOpen]
@[simp] theorem State.startOpen_ec (k t g n : Byte) (i : IssuerTag) (rt ll : Byte)
    (l : List Byte) (s : State) : (s.startOpen k t g n i rt ll l).ec = s.ec := by
  simp [State.startOpen]
@[simp] theorem State.startOpen_pwr (k t g n : Byte) (i : IssuerTag) (rt ll : Byte)
    (l : List Byte) (s : State) : (s.startOpen k t g n i rt ll l).pwr = s.pwr := by
  simp [State.startOpen]
@[simp] theorem State.startOpen_pins (k t g n : Byte) (i : IssuerTag) (rt ll : Byte)
    (l : List Byte) (s : State) : (s.startOpen k t g n i rt ll l).pins = s.pins := by
  simp [State.startOpen]
@[simp] theorem State.startOpen_pending (k t g n : Byte) (i : IssuerTag) (rt ll : Byte)
    (l : List Byte) (s : State) : (s.startOpen k t g n i rt ll l).pending = s.pending := by
  simp [State.startOpen]

@[simp] theorem State.claimOrRefuse_kt (x : ConsoleStatus ⊕ Job) (s : State) :
    (s.claimOrRefuse x).kt = s.kt := by
  unfold State.claimOrRefuse
  split <;> simp
@[simp] theorem State.claimOrRefuse_su (x : ConsoleStatus ⊕ Job) (s : State) :
    (s.claimOrRefuse x).su = s.su := by
  unfold State.claimOrRefuse
  split <;> simp
@[simp] theorem State.claimOrRefuse_channels (x : ConsoleStatus ⊕ Job) (s : State) :
    (s.claimOrRefuse x).channels = s.channels := by
  unfold State.claimOrRefuse
  split <;> simp
@[simp] theorem State.claimOrRefuse_lhi (x : ConsoleStatus ⊕ Job) (s : State) :
    (s.claimOrRefuse x).lhi = s.lhi := by
  unfold State.claimOrRefuse
  split <;> simp
@[simp] theorem State.claimOrRefuse_tm (x : ConsoleStatus ⊕ Job) (s : State) :
    (s.claimOrRefuse x).tm = s.tm := by
  unfold State.claimOrRefuse
  split <;> simp
@[simp] theorem State.claimOrRefuse_ess (x : ConsoleStatus ⊕ Job) (s : State) :
    (s.claimOrRefuse x).ess = s.ess := by
  unfold State.claimOrRefuse
  split <;> simp
@[simp] theorem State.claimOrRefuse_ec (x : ConsoleStatus ⊕ Job) (s : State) :
    (s.claimOrRefuse x).ec = s.ec := by
  unfold State.claimOrRefuse
  split <;> simp
@[simp] theorem State.claimOrRefuse_pwr (x : ConsoleStatus ⊕ Job) (s : State) :
    (s.claimOrRefuse x).pwr = s.pwr := by
  unfold State.claimOrRefuse
  split <;> simp
@[simp] theorem State.claimOrRefuse_pins (x : ConsoleStatus ⊕ Job) (s : State) :
    (s.claimOrRefuse x).pins = s.pins := by
  unfold State.claimOrRefuse
  split <;> simp
@[simp] theorem State.claimOrRefuse_pending (x : ConsoleStatus ⊕ Job) (s : State) :
    (s.claimOrRefuse x).pending = s.pending := by
  unfold State.claimOrRefuse
  split <;> simp

@[simp] theorem State.startRespond_kt (n : Byte) (s : State) :
    (s.startRespond n).kt = s.kt := by
  unfold State.startRespond
  split <;> simp
@[simp] theorem State.startRespond_su (n : Byte) (s : State) :
    (s.startRespond n).su = s.su := by
  unfold State.startRespond
  split <;> simp
@[simp] theorem State.startRespond_channels (n : Byte) (s : State) :
    (s.startRespond n).channels = s.channels := by
  unfold State.startRespond
  split <;> simp
@[simp] theorem State.startRespond_lhi (n : Byte) (s : State) :
    (s.startRespond n).lhi = s.lhi := by
  unfold State.startRespond
  split <;> simp
@[simp] theorem State.startRespond_tm (n : Byte) (s : State) :
    (s.startRespond n).tm = s.tm := by
  unfold State.startRespond
  split <;> simp
@[simp] theorem State.startRespond_ess (n : Byte) (s : State) :
    (s.startRespond n).ess = s.ess := by
  unfold State.startRespond
  split <;> simp
@[simp] theorem State.startRespond_ec (n : Byte) (s : State) :
    (s.startRespond n).ec = s.ec := by
  unfold State.startRespond
  split <;> simp
@[simp] theorem State.startRespond_pwr (n : Byte) (s : State) :
    (s.startRespond n).pwr = s.pwr := by
  unfold State.startRespond
  split <;> simp
@[simp] theorem State.startRespond_pins (n : Byte) (s : State) :
    (s.startRespond n).pins = s.pins := by
  unfold State.startRespond
  split <;> simp
@[simp] theorem State.startRespond_pending (n : Byte) (s : State) :
    (s.startRespond n).pending = s.pending := by
  unfold State.startRespond
  split <;> simp

/-! ## Service of requests (R26 to R32) -/

@[simp] theorem State.reply_kt (c : ChannelNo) (x : Reply) (s : State) :
    (s.reply c x).kt = s.kt := rfl
@[simp] theorem State.reply_su (c : ChannelNo) (x : Reply) (s : State) :
    (s.reply c x).su = s.su := rfl
@[simp] theorem State.reply_cc (c : ChannelNo) (x : Reply) (s : State) :
    (s.reply c x).cc = s.cc := rfl
@[simp] theorem State.reply_lhi (c : ChannelNo) (x : Reply) (s : State) :
    (s.reply c x).lhi = s.lhi := rfl
@[simp] theorem State.reply_ci (c : ChannelNo) (x : Reply) (s : State) :
    (s.reply c x).ci = s.ci := rfl
@[simp] theorem State.reply_cec (c : ChannelNo) (x : Reply) (s : State) :
    (s.reply c x).cec = s.cec := rfl
@[simp] theorem State.reply_tm (c : ChannelNo) (x : Reply) (s : State) :
    (s.reply c x).tm = s.tm := rfl
@[simp] theorem State.reply_ess (c : ChannelNo) (x : Reply) (s : State) :
    (s.reply c x).ess = s.ess := rfl
@[simp] theorem State.reply_ec (c : ChannelNo) (x : Reply) (s : State) :
    (s.reply c x).ec = s.ec := rfl
@[simp] theorem State.reply_pwr (c : ChannelNo) (x : Reply) (s : State) :
    (s.reply c x).pwr = s.pwr := rfl
@[simp] theorem State.reply_pins (c : ChannelNo) (x : Reply) (s : State) :
    (s.reply c x).pins = s.pins := rfl
@[simp] theorem State.reply_pending (c : ChannelNo) (x : Reply) (s : State) :
    (s.reply c x).pending = s.pending := rfl

@[simp] theorem State.failRequest_kt (c : ChannelNo) (x : Request) (i : EntryIndex)
    (st : ReplyStatus) (s : State) :
    (s.failRequest c x i st).kt = s.kt := by
  unfold State.failRequest
  split <;> simp
@[simp] theorem State.failRequest_su (c : ChannelNo) (x : Request) (i : EntryIndex)
    (st : ReplyStatus) (s : State) :
    (s.failRequest c x i st).su = s.su := by
  unfold State.failRequest
  split <;> simp
@[simp] theorem State.failRequest_cc (c : ChannelNo) (x : Request) (i : EntryIndex)
    (st : ReplyStatus) (s : State) :
    (s.failRequest c x i st).cc = s.cc := by
  unfold State.failRequest
  split <;> simp
@[simp] theorem State.failRequest_lhi (c : ChannelNo) (x : Request) (i : EntryIndex)
    (st : ReplyStatus) (s : State) :
    (s.failRequest c x i st).lhi = s.lhi := by
  unfold State.failRequest
  split <;> simp
@[simp] theorem State.failRequest_cec (c : ChannelNo) (x : Request) (i : EntryIndex)
    (st : ReplyStatus) (s : State) :
    (s.failRequest c x i st).cec = s.cec := by
  unfold State.failRequest
  split <;> simp
@[simp] theorem State.failRequest_tm (c : ChannelNo) (x : Request) (i : EntryIndex)
    (st : ReplyStatus) (s : State) :
    (s.failRequest c x i st).tm = s.tm := by
  unfold State.failRequest
  split <;> simp
@[simp] theorem State.failRequest_ess (c : ChannelNo) (x : Request) (i : EntryIndex)
    (st : ReplyStatus) (s : State) :
    (s.failRequest c x i st).ess = s.ess := by
  unfold State.failRequest
  split <;> simp
@[simp] theorem State.failRequest_ec (c : ChannelNo) (x : Request) (i : EntryIndex)
    (st : ReplyStatus) (s : State) :
    (s.failRequest c x i st).ec = s.ec := by
  unfold State.failRequest
  split <;> simp
@[simp] theorem State.failRequest_pwr (c : ChannelNo) (x : Request) (i : EntryIndex)
    (st : ReplyStatus) (s : State) :
    (s.failRequest c x i st).pwr = s.pwr := by
  unfold State.failRequest
  split <;> simp
@[simp] theorem State.failRequest_pins (c : ChannelNo) (x : Request) (i : EntryIndex)
    (st : ReplyStatus) (s : State) :
    (s.failRequest c x i st).pins = s.pins := by
  unfold State.failRequest
  split <;> simp
@[simp] theorem State.failRequest_pending (c : ChannelNo) (x : Request) (i : EntryIndex)
    (st : ReplyStatus) (s : State) :
    (s.failRequest c x i st).pending = s.pending := by
  unfold State.failRequest
  split <;> simp

@[simp] theorem State.startProbe_kt (c : ChannelNo) (x : Request) (i : EntryIndex) (s : State) :
    (s.startProbe c x i).kt = s.kt := by
  unfold State.startProbe
  split <;> simp
@[simp] theorem State.startProbe_su (c : ChannelNo) (x : Request) (i : EntryIndex) (s : State) :
    (s.startProbe c x i).su = s.su := by
  unfold State.startProbe
  split <;> simp
@[simp] theorem State.startProbe_cc (c : ChannelNo) (x : Request) (i : EntryIndex) (s : State) :
    (s.startProbe c x i).cc = s.cc := by
  unfold State.startProbe
  split <;> simp
@[simp] theorem State.startProbe_lhi (c : ChannelNo) (x : Request) (i : EntryIndex) (s : State) :
    (s.startProbe c x i).lhi = s.lhi := by
  unfold State.startProbe
  split <;> simp
@[simp] theorem State.startProbe_cec (c : ChannelNo) (x : Request) (i : EntryIndex) (s : State) :
    (s.startProbe c x i).cec = s.cec := by
  unfold State.startProbe
  split <;> simp
@[simp] theorem State.startProbe_tm (c : ChannelNo) (x : Request) (i : EntryIndex) (s : State) :
    (s.startProbe c x i).tm = s.tm := by
  unfold State.startProbe
  split <;> simp
@[simp] theorem State.startProbe_ess (c : ChannelNo) (x : Request) (i : EntryIndex) (s : State) :
    (s.startProbe c x i).ess = s.ess := by
  unfold State.startProbe
  split <;> simp
@[simp] theorem State.startProbe_ec (c : ChannelNo) (x : Request) (i : EntryIndex) (s : State) :
    (s.startProbe c x i).ec = s.ec := by
  unfold State.startProbe
  split <;> simp
@[simp] theorem State.startProbe_pwr (c : ChannelNo) (x : Request) (i : EntryIndex) (s : State) :
    (s.startProbe c x i).pwr = s.pwr := by
  unfold State.startProbe
  split <;> simp
@[simp] theorem State.startProbe_pins (c : ChannelNo) (x : Request) (i : EntryIndex) (s : State) :
    (s.startProbe c x i).pins = s.pins := by
  unfold State.startProbe
  split <;> simp
@[simp] theorem State.startProbe_pending (c : ChannelNo) (x : Request) (i : EntryIndex)
    (s : State) :
    (s.startProbe c x i).pending = s.pending := by
  unfold State.startProbe
  split <;> simp

@[simp] theorem State.chargeEntry_su (i : EntryIndex) (k : Nat) (s : State) :
    (s.chargeEntry i k).su = s.su := by
  unfold State.chargeEntry
  simp
@[simp] theorem State.chargeEntry_cc (i : EntryIndex) (k : Nat) (s : State) :
    (s.chargeEntry i k).cc = s.cc := by
  unfold State.chargeEntry
  simp
@[simp] theorem State.chargeEntry_channels (i : EntryIndex) (k : Nat) (s : State) :
    (s.chargeEntry i k).channels = s.channels := by
  unfold State.chargeEntry
  simp
@[simp] theorem State.chargeEntry_lhi (i : EntryIndex) (k : Nat) (s : State) :
    (s.chargeEntry i k).lhi = s.lhi := by
  unfold State.chargeEntry
  simp
@[simp] theorem State.chargeEntry_cec (i : EntryIndex) (k : Nat) (s : State) :
    (s.chargeEntry i k).cec = s.cec := by
  unfold State.chargeEntry
  simp
@[simp] theorem State.chargeEntry_tm (i : EntryIndex) (k : Nat) (s : State) :
    (s.chargeEntry i k).tm = s.tm := by
  unfold State.chargeEntry
  simp
@[simp] theorem State.chargeEntry_ess (i : EntryIndex) (k : Nat) (s : State) :
    (s.chargeEntry i k).ess = s.ess := by
  unfold State.chargeEntry
  simp
@[simp] theorem State.chargeEntry_ec (i : EntryIndex) (k : Nat) (s : State) :
    (s.chargeEntry i k).ec = s.ec := by
  unfold State.chargeEntry
  simp
@[simp] theorem State.chargeEntry_pwr (i : EntryIndex) (k : Nat) (s : State) :
    (s.chargeEntry i k).pwr = s.pwr := by
  unfold State.chargeEntry
  simp
@[simp] theorem State.chargeEntry_pins (i : EntryIndex) (k : Nat) (s : State) :
    (s.chargeEntry i k).pins = s.pins := by
  unfold State.chargeEntry
  simp
@[simp] theorem State.chargeEntry_pending (i : EntryIndex) (k : Nat) (s : State) :
    (s.chargeEntry i k).pending = s.pending := by
  unfold State.chargeEntry
  simp

@[simp] theorem State.bindDerive_channels (c : ChannelNo) (tag : Byte) (body : DeriveBody)
    (b : BoundCopies) (s : State) :
    (s.bindDerive c tag body b).channels = s.channels := by
  unfold State.bindDerive
  simp
@[simp] theorem State.bindDerive_lhi (c : ChannelNo) (tag : Byte) (body : DeriveBody)
    (b : BoundCopies) (s : State) :
    (s.bindDerive c tag body b).lhi = s.lhi := by
  unfold State.bindDerive
  simp
@[simp] theorem State.bindDerive_cec (c : ChannelNo) (tag : Byte) (body : DeriveBody)
    (b : BoundCopies) (s : State) :
    (s.bindDerive c tag body b).cec = s.cec := by
  unfold State.bindDerive
  simp
@[simp] theorem State.bindDerive_tm (c : ChannelNo) (tag : Byte) (body : DeriveBody)
    (b : BoundCopies) (s : State) :
    (s.bindDerive c tag body b).tm = s.tm := by
  unfold State.bindDerive
  simp
@[simp] theorem State.bindDerive_ess (c : ChannelNo) (tag : Byte) (body : DeriveBody)
    (b : BoundCopies) (s : State) :
    (s.bindDerive c tag body b).ess = s.ess := by
  unfold State.bindDerive
  simp
@[simp] theorem State.bindDerive_ec (c : ChannelNo) (tag : Byte) (body : DeriveBody)
    (b : BoundCopies) (s : State) :
    (s.bindDerive c tag body b).ec = s.ec := by
  unfold State.bindDerive
  simp
@[simp] theorem State.bindDerive_pwr (c : ChannelNo) (tag : Byte) (body : DeriveBody)
    (b : BoundCopies) (s : State) :
    (s.bindDerive c tag body b).pwr = s.pwr := by
  unfold State.bindDerive
  simp
@[simp] theorem State.bindDerive_pins (c : ChannelNo) (tag : Byte) (body : DeriveBody)
    (b : BoundCopies) (s : State) :
    (s.bindDerive c tag body b).pins = s.pins := by
  unfold State.bindDerive
  simp
@[simp] theorem State.bindDerive_pending (c : ChannelNo) (tag : Byte) (body : DeriveBody)
    (b : BoundCopies) (s : State) :
    (s.bindDerive c tag body b).pending = s.pending := by
  unfold State.bindDerive
  simp

/-! ## Results of claims (R40, R100, R117, R120, R188) -/

@[simp] theorem State.completeDerive_kt (o : List Result) (s : State) :
    (s.completeDerive o).kt = s.kt := by
  unfold State.completeDerive
  split
  · rfl
  · dsimp only
    split <;> simp
@[simp] theorem State.completeDerive_cc (o : List Result) (s : State) :
    (s.completeDerive o).cc = s.cc := by
  unfold State.completeDerive
  split
  · rfl
  · dsimp only
    split <;> simp
@[simp] theorem State.completeDerive_lhi (o : List Result) (s : State) :
    (s.completeDerive o).lhi = s.lhi := by
  unfold State.completeDerive
  split
  · rfl
  · dsimp only
    split <;> simp
@[simp] theorem State.completeDerive_ci (o : List Result) (s : State) :
    (s.completeDerive o).ci = s.ci := by
  unfold State.completeDerive
  split
  · rfl
  · dsimp only
    split <;> simp
@[simp] theorem State.completeDerive_cec (o : List Result) (s : State) :
    (s.completeDerive o).cec = s.cec := by
  unfold State.completeDerive
  split
  · rfl
  · dsimp only
    split <;> simp
@[simp] theorem State.completeDerive_tm (o : List Result) (s : State) :
    (s.completeDerive o).tm = s.tm := by
  unfold State.completeDerive
  split
  · rfl
  · dsimp only
    split <;> simp
@[simp] theorem State.completeDerive_ess (o : List Result) (s : State) :
    (s.completeDerive o).ess = s.ess := by
  unfold State.completeDerive
  split
  · rfl
  · dsimp only
    split <;> simp
@[simp] theorem State.completeDerive_ec (o : List Result) (s : State) :
    (s.completeDerive o).ec = s.ec := by
  unfold State.completeDerive
  split
  · rfl
  · dsimp only
    split <;> simp
@[simp] theorem State.completeDerive_pwr (o : List Result) (s : State) :
    (s.completeDerive o).pwr = s.pwr := by
  unfold State.completeDerive
  split
  · rfl
  · dsimp only
    split <;> simp
@[simp] theorem State.completeDerive_pins (o : List Result) (s : State) :
    (s.completeDerive o).pins = s.pins := by
  unfold State.completeDerive
  split
  · rfl
  · dsimp only
    split <;> simp
@[simp] theorem State.completeDerive_pending (o : List Result) (s : State) :
    (s.completeDerive o).pending = s.pending := by
  unfold State.completeDerive
  split
  · rfl
  · dsimp only
    split <;> simp

@[simp] theorem State.respondMatches_kt (c : CustodianNo) (s : State) :
    (s.respondMatches c).kt = s.kt := by
  unfold State.respondMatches
  simp
@[simp] theorem State.respondMatches_su (c : CustodianNo) (s : State) :
    (s.respondMatches c).su = s.su := by
  unfold State.respondMatches
  simp
@[simp] theorem State.respondMatches_cc (c : CustodianNo) (s : State) :
    (s.respondMatches c).cc = s.cc := by
  unfold State.respondMatches
  simp
@[simp] theorem State.respondMatches_channels (c : CustodianNo) (s : State) :
    (s.respondMatches c).channels = s.channels := by
  unfold State.respondMatches
  simp
@[simp] theorem State.respondMatches_lhi (c : CustodianNo) (s : State) :
    (s.respondMatches c).lhi = s.lhi := by
  unfold State.respondMatches
  simp
@[simp] theorem State.respondMatches_tm (c : CustodianNo) (s : State) :
    (s.respondMatches c).tm = s.tm := by
  unfold State.respondMatches
  simp
@[simp] theorem State.respondMatches_ess (c : CustodianNo) (s : State) :
    (s.respondMatches c).ess = s.ess := by
  unfold State.respondMatches
  simp
@[simp] theorem State.respondMatches_ec (c : CustodianNo) (s : State) :
    (s.respondMatches c).ec = s.ec := by
  unfold State.respondMatches
  simp
@[simp] theorem State.respondMatches_pwr (c : CustodianNo) (s : State) :
    (s.respondMatches c).pwr = s.pwr := by
  unfold State.respondMatches
  simp
@[simp] theorem State.respondMatches_pins (c : CustodianNo) (s : State) :
    (s.respondMatches c).pins = s.pins := by
  unfold State.respondMatches
  simp
@[simp] theorem State.respondMatches_pending (c : CustodianNo) (s : State) :
    (s.respondMatches c).pending = s.pending := by
  unfold State.respondMatches
  simp

@[simp] theorem State.respondFails_kt (c : CustodianNo) (s : State) :
    (s.respondFails c).kt = s.kt := by
  unfold State.respondFails
  simp
@[simp] theorem State.respondFails_su (c : CustodianNo) (s : State) :
    (s.respondFails c).su = s.su := by
  unfold State.respondFails
  simp
@[simp] theorem State.respondFails_cc (c : CustodianNo) (s : State) :
    (s.respondFails c).cc = s.cc := by
  unfold State.respondFails
  simp
@[simp] theorem State.respondFails_channels (c : CustodianNo) (s : State) :
    (s.respondFails c).channels = s.channels := by
  unfold State.respondFails
  simp
@[simp] theorem State.respondFails_lhi (c : CustodianNo) (s : State) :
    (s.respondFails c).lhi = s.lhi := by
  unfold State.respondFails
  simp
@[simp] theorem State.respondFails_tm (c : CustodianNo) (s : State) :
    (s.respondFails c).tm = s.tm := by
  unfold State.respondFails
  simp
@[simp] theorem State.respondFails_ess (c : CustodianNo) (s : State) :
    (s.respondFails c).ess = s.ess := by
  unfold State.respondFails
  simp
@[simp] theorem State.respondFails_ec (c : CustodianNo) (s : State) :
    (s.respondFails c).ec = s.ec := by
  unfold State.respondFails
  simp
@[simp] theorem State.respondFails_pwr (c : CustodianNo) (s : State) :
    (s.respondFails c).pwr = s.pwr := by
  unfold State.respondFails
  simp
@[simp] theorem State.respondFails_pins (c : CustodianNo) (s : State) :
    (s.respondFails c).pins = s.pins := by
  unfold State.respondFails
  simp
@[simp] theorem State.respondFails_pending (c : CustodianNo) (s : State) :
    (s.respondFails c).pending = s.pending := by
  unfold State.respondFails
  simp

@[simp] theorem State.completeRespond_kt (x : Block) (s : State) :
    (s.completeRespond x).kt = s.kt := by
  unfold State.completeRespond
  repeat' split
  all_goals simp
@[simp] theorem State.completeRespond_su (x : Block) (s : State) :
    (s.completeRespond x).su = s.su := by
  unfold State.completeRespond
  repeat' split
  all_goals simp
@[simp] theorem State.completeRespond_cc (x : Block) (s : State) :
    (s.completeRespond x).cc = s.cc := by
  unfold State.completeRespond
  repeat' split
  all_goals simp
@[simp] theorem State.completeRespond_channels (x : Block) (s : State) :
    (s.completeRespond x).channels = s.channels := by
  unfold State.completeRespond
  repeat' split
  all_goals simp
@[simp] theorem State.completeRespond_lhi (x : Block) (s : State) :
    (s.completeRespond x).lhi = s.lhi := by
  unfold State.completeRespond
  repeat' split
  all_goals simp
@[simp] theorem State.completeRespond_tm (x : Block) (s : State) :
    (s.completeRespond x).tm = s.tm := by
  unfold State.completeRespond
  repeat' split
  all_goals simp
@[simp] theorem State.completeRespond_ess (x : Block) (s : State) :
    (s.completeRespond x).ess = s.ess := by
  unfold State.completeRespond
  repeat' split
  all_goals simp
@[simp] theorem State.completeRespond_ec (x : Block) (s : State) :
    (s.completeRespond x).ec = s.ec := by
  unfold State.completeRespond
  repeat' split
  all_goals simp
@[simp] theorem State.completeRespond_pwr (x : Block) (s : State) :
    (s.completeRespond x).pwr = s.pwr := by
  unfold State.completeRespond
  repeat' split
  all_goals simp
@[simp] theorem State.completeRespond_pins (x : Block) (s : State) :
    (s.completeRespond x).pins = s.pins := by
  unfold State.completeRespond
  repeat' split
  all_goals simp
@[simp] theorem State.completeRespond_pending (x : Block) (s : State) :
    (s.completeRespond x).pending = s.pending := by
  unfold State.completeRespond
  repeat' split
  all_goals simp

@[simp] theorem State.completeComponent_kt (k : Key) (v : CheckValue) (s : State) :
    (s.completeComponent k v).kt = s.kt := by
  unfold State.completeComponent
  repeat' split
  all_goals simp
@[simp] theorem State.completeComponent_su (k : Key) (v : CheckValue) (s : State) :
    (s.completeComponent k v).su = s.su := by
  unfold State.completeComponent
  repeat' split
  all_goals simp
@[simp] theorem State.completeComponent_cc (k : Key) (v : CheckValue) (s : State) :
    (s.completeComponent k v).cc = s.cc := by
  unfold State.completeComponent
  repeat' split
  all_goals simp
@[simp] theorem State.completeComponent_channels (k : Key) (v : CheckValue) (s : State) :
    (s.completeComponent k v).channels = s.channels := by
  unfold State.completeComponent
  repeat' split
  all_goals simp
@[simp] theorem State.completeComponent_lhi (k : Key) (v : CheckValue) (s : State) :
    (s.completeComponent k v).lhi = s.lhi := by
  unfold State.completeComponent
  repeat' split
  all_goals simp
@[simp] theorem State.completeComponent_tm (k : Key) (v : CheckValue) (s : State) :
    (s.completeComponent k v).tm = s.tm := by
  unfold State.completeComponent
  repeat' split
  all_goals simp
@[simp] theorem State.completeComponent_ess (k : Key) (v : CheckValue) (s : State) :
    (s.completeComponent k v).ess = s.ess := by
  unfold State.completeComponent
  repeat' split
  all_goals simp
@[simp] theorem State.completeComponent_ec (k : Key) (v : CheckValue) (s : State) :
    (s.completeComponent k v).ec = s.ec := by
  unfold State.completeComponent
  repeat' split
  all_goals simp
@[simp] theorem State.completeComponent_pwr (k : Key) (v : CheckValue) (s : State) :
    (s.completeComponent k v).pwr = s.pwr := by
  unfold State.completeComponent
  repeat' split
  all_goals simp
@[simp] theorem State.completeComponent_pins (k : Key) (v : CheckValue) (s : State) :
    (s.completeComponent k v).pins = s.pins := by
  unfold State.completeComponent
  repeat' split
  all_goals simp
@[simp] theorem State.completeComponent_pending (k : Key) (v : CheckValue) (s : State) :
    (s.completeComponent k v).pending = s.pending := by
  unfold State.completeComponent
  repeat' split
  all_goals simp

@[simp] theorem State.install_su (t : CeremonyTarget) (g : Generation) (s : State) :
    (s.install t g).su = s.su := by
  unfold State.install
  repeat' split
  all_goals simp
@[simp] theorem State.install_cc (t : CeremonyTarget) (g : Generation) (s : State) :
    (s.install t g).cc = s.cc := by
  unfold State.install
  repeat' split
  all_goals simp
@[simp] theorem State.install_lhi (t : CeremonyTarget) (g : Generation) (s : State) :
    (s.install t g).lhi = s.lhi := by
  unfold State.install
  repeat' split
  all_goals simp
@[simp] theorem State.install_ci (t : CeremonyTarget) (g : Generation) (s : State) :
    (s.install t g).ci = s.ci := by
  unfold State.install
  repeat' split
  all_goals simp
@[simp] theorem State.install_cec (t : CeremonyTarget) (g : Generation) (s : State) :
    (s.install t g).cec = s.cec := by
  unfold State.install
  repeat' split
  all_goals simp
@[simp] theorem State.install_tm (t : CeremonyTarget) (g : Generation) (s : State) :
    (s.install t g).tm = s.tm := by
  unfold State.install
  repeat' split
  all_goals simp
@[simp] theorem State.install_ess (t : CeremonyTarget) (g : Generation) (s : State) :
    (s.install t g).ess = s.ess := by
  unfold State.install
  repeat' split
  all_goals simp
@[simp] theorem State.install_ec (t : CeremonyTarget) (g : Generation) (s : State) :
    (s.install t g).ec = s.ec := by
  unfold State.install
  repeat' split
  all_goals simp
@[simp] theorem State.install_pwr (t : CeremonyTarget) (g : Generation) (s : State) :
    (s.install t g).pwr = s.pwr := by
  unfold State.install
  repeat' split
  all_goals simp
@[simp] theorem State.install_pins (t : CeremonyTarget) (g : Generation) (s : State) :
    (s.install t g).pins = s.pins := by
  unfold State.install
  repeat' split
  all_goals simp
@[simp] theorem State.install_pending (t : CeremonyTarget) (g : Generation) (s : State) :
    (s.install t g).pending = s.pending := by
  unfold State.install
  repeat' split
  all_goals simp

@[simp] theorem State.completeCommit_su (v : CheckValue) (s : State) :
    (s.completeCommit v).su = s.su := by
  unfold State.completeCommit
  repeat' split
  all_goals simp
@[simp] theorem State.completeCommit_cc (v : CheckValue) (s : State) :
    (s.completeCommit v).cc = s.cc := by
  unfold State.completeCommit
  repeat' split
  all_goals simp
@[simp] theorem State.completeCommit_lhi (v : CheckValue) (s : State) :
    (s.completeCommit v).lhi = s.lhi := by
  unfold State.completeCommit
  repeat' split
  all_goals simp
@[simp] theorem State.completeCommit_tm (v : CheckValue) (s : State) :
    (s.completeCommit v).tm = s.tm := by
  unfold State.completeCommit
  repeat' split
  all_goals simp
@[simp] theorem State.completeCommit_ess (v : CheckValue) (s : State) :
    (s.completeCommit v).ess = s.ess := by
  unfold State.completeCommit
  repeat' split
  all_goals simp
@[simp] theorem State.completeCommit_ec (v : CheckValue) (s : State) :
    (s.completeCommit v).ec = s.ec := by
  unfold State.completeCommit
  repeat' split
  all_goals simp
@[simp] theorem State.completeCommit_pwr (v : CheckValue) (s : State) :
    (s.completeCommit v).pwr = s.pwr := by
  unfold State.completeCommit
  repeat' split
  all_goals simp
@[simp] theorem State.completeCommit_pins (v : CheckValue) (s : State) :
    (s.completeCommit v).pins = s.pins := by
  unfold State.completeCommit
  repeat' split
  all_goals simp
@[simp] theorem State.completeCommit_pending (v : CheckValue) (s : State) :
    (s.completeCommit v).pending = s.pending := by
  unfold State.completeCommit
  repeat' split
  all_goals simp

@[simp] theorem State.applyCheck_su (p : CheckPosition) (o : List Result) (s : State) :
    (s.applyCheck p o).su = s.su := by
  unfold State.applyCheck
  split <;> simp
@[simp] theorem State.applyCheck_cc (p : CheckPosition) (o : List Result) (s : State) :
    (s.applyCheck p o).cc = s.cc := by
  unfold State.applyCheck
  split <;> simp
@[simp] theorem State.applyCheck_lhi (p : CheckPosition) (o : List Result) (s : State) :
    (s.applyCheck p o).lhi = s.lhi := by
  unfold State.applyCheck
  split <;> simp
@[simp] theorem State.applyCheck_cec (p : CheckPosition) (o : List Result) (s : State) :
    (s.applyCheck p o).cec = s.cec := by
  unfold State.applyCheck
  split <;> simp
@[simp] theorem State.applyCheck_tm (p : CheckPosition) (o : List Result) (s : State) :
    (s.applyCheck p o).tm = s.tm := by
  unfold State.applyCheck
  split <;> simp
@[simp] theorem State.applyCheck_ess (p : CheckPosition) (o : List Result) (s : State) :
    (s.applyCheck p o).ess = s.ess := by
  unfold State.applyCheck
  split <;> simp
@[simp] theorem State.applyCheck_ec (p : CheckPosition) (o : List Result) (s : State) :
    (s.applyCheck p o).ec = s.ec := by
  unfold State.applyCheck
  split <;> simp
@[simp] theorem State.applyCheck_pwr (p : CheckPosition) (o : List Result) (s : State) :
    (s.applyCheck p o).pwr = s.pwr := by
  unfold State.applyCheck
  split <;> simp
@[simp] theorem State.applyCheck_pins (p : CheckPosition) (o : List Result) (s : State) :
    (s.applyCheck p o).pins = s.pins := by
  unfold State.applyCheck
  split <;> simp
@[simp] theorem State.applyCheck_pending (p : CheckPosition) (o : List Result) (s : State) :
    (s.applyCheck p o).pending = s.pending := by
  unfold State.applyCheck
  split <;> simp

@[simp] theorem State.completeCheck_su (o : List Result) (s : State) :
    (s.completeCheck o).su = s.su := by
  unfold State.completeCheck
  split <;> simp
@[simp] theorem State.completeCheck_cec (o : List Result) (s : State) :
    (s.completeCheck o).cec = s.cec := by
  unfold State.completeCheck
  split <;> simp
@[simp] theorem State.completeCheck_tm (o : List Result) (s : State) :
    (s.completeCheck o).tm = s.tm := by
  unfold State.completeCheck
  split <;> simp
@[simp] theorem State.completeCheck_ess (o : List Result) (s : State) :
    (s.completeCheck o).ess = s.ess := by
  unfold State.completeCheck
  split <;> simp
@[simp] theorem State.completeCheck_ec (o : List Result) (s : State) :
    (s.completeCheck o).ec = s.ec := by
  unfold State.completeCheck
  split <;> simp
@[simp] theorem State.completeCheck_pins (o : List Result) (s : State) :
    (s.completeCheck o).pins = s.pins := by
  unfold State.completeCheck
  split <;> simp
@[simp] theorem State.completeCheck_pending (o : List Result) (s : State) :
    (s.completeCheck o).pending = s.pending := by
  unfold State.completeCheck
  split <;> simp

@[simp] theorem State.deliverResults_tm (j : Job) (s : State) :
    (s.deliverResults j).tm = s.tm := by
  unfold State.deliverResults
  split <;> simp
@[simp] theorem State.deliverResults_ess (j : Job) (s : State) :
    (s.deliverResults j).ess = s.ess := by
  unfold State.deliverResults
  split <;> simp
@[simp] theorem State.deliverResults_ec (j : Job) (s : State) :
    (s.deliverResults j).ec = s.ec := by
  unfold State.deliverResults
  split <;> simp
@[simp] theorem State.deliverResults_pins (j : Job) (s : State) :
    (s.deliverResults j).pins = s.pins := by
  unfold State.deliverResults
  split <;> simp
@[simp] theorem State.deliverResults_pending (j : Job) (s : State) :
    (s.deliverResults j).pending = s.pending := by
  unfold State.deliverResults
  split <;> simp

@[simp] theorem State.completeClaim_tm (c : Claim) (s : State) :
    (s.completeClaim c).tm = s.tm := by
  unfold State.completeClaim
  simp
@[simp] theorem State.completeClaim_ess (c : Claim) (s : State) :
    (s.completeClaim c).ess = s.ess := by
  unfold State.completeClaim
  simp
@[simp] theorem State.completeClaim_ec (c : Claim) (s : State) :
    (s.completeClaim c).ec = s.ec := by
  unfold State.completeClaim
  simp
@[simp] theorem State.completeClaim_pins (c : Claim) (s : State) :
    (s.completeClaim c).pins = s.pins := by
  unfold State.completeClaim
  simp
@[simp] theorem State.completeClaim_pending (c : Claim) (s : State) :
    (s.completeClaim c).pending = s.pending := by
  unfold State.completeClaim
  simp

/-! ## The highway (R70 to R82) -/

@[simp] theorem State.moveTo_kt (p : Position) (s : State) :
    (s.moveTo p).kt = s.kt := rfl
@[simp] theorem State.moveTo_su (p : Position) (s : State) :
    (s.moveTo p).su = s.su := rfl
@[simp] theorem State.moveTo_cc (p : Position) (s : State) :
    (s.moveTo p).cc = s.cc := rfl
@[simp] theorem State.moveTo_channels (p : Position) (s : State) :
    (s.moveTo p).channels = s.channels := rfl
@[simp] theorem State.moveTo_ci (p : Position) (s : State) :
    (s.moveTo p).ci = s.ci := rfl
@[simp] theorem State.moveTo_cec (p : Position) (s : State) :
    (s.moveTo p).cec = s.cec := rfl
@[simp] theorem State.moveTo_tm (p : Position) (s : State) :
    (s.moveTo p).tm = s.tm := rfl
@[simp] theorem State.moveTo_ess (p : Position) (s : State) :
    (s.moveTo p).ess = s.ess := rfl
@[simp] theorem State.moveTo_ec (p : Position) (s : State) :
    (s.moveTo p).ec = s.ec := rfl
@[simp] theorem State.moveTo_pwr (p : Position) (s : State) :
    (s.moveTo p).pwr = s.pwr := rfl
@[simp] theorem State.moveTo_pins (p : Position) (s : State) :
    (s.moveTo p).pins = s.pins := rfl
@[simp] theorem State.moveTo_pending (p : Position) (s : State) :
    (s.moveTo p).pending = s.pending := rfl

@[simp] theorem State.mapChannels_kt (f : Channel → Channel) (s : State) :
    (s.mapChannels f).kt = s.kt := rfl
@[simp] theorem State.mapChannels_su (f : Channel → Channel) (s : State) :
    (s.mapChannels f).su = s.su := rfl
@[simp] theorem State.mapChannels_cc (f : Channel → Channel) (s : State) :
    (s.mapChannels f).cc = s.cc := rfl
@[simp] theorem State.mapChannels_lhi (f : Channel → Channel) (s : State) :
    (s.mapChannels f).lhi = s.lhi := rfl
@[simp] theorem State.mapChannels_ci (f : Channel → Channel) (s : State) :
    (s.mapChannels f).ci = s.ci := rfl
@[simp] theorem State.mapChannels_cec (f : Channel → Channel) (s : State) :
    (s.mapChannels f).cec = s.cec := rfl
@[simp] theorem State.mapChannels_tm (f : Channel → Channel) (s : State) :
    (s.mapChannels f).tm = s.tm := rfl
@[simp] theorem State.mapChannels_ess (f : Channel → Channel) (s : State) :
    (s.mapChannels f).ess = s.ess := rfl
@[simp] theorem State.mapChannels_ec (f : Channel → Channel) (s : State) :
    (s.mapChannels f).ec = s.ec := rfl
@[simp] theorem State.mapChannels_pwr (f : Channel → Channel) (s : State) :
    (s.mapChannels f).pwr = s.pwr := rfl
@[simp] theorem State.mapChannels_pins (f : Channel → Channel) (s : State) :
    (s.mapChannels f).pins = s.pins := rfl
@[simp] theorem State.mapChannels_pending (f : Channel → Channel) (s : State) :
    (s.mapChannels f).pending = s.pending := rfl

@[simp] theorem State.cutWord_kt (s : State) :
    s.cutWord.kt = s.kt := by
  unfold State.cutWord
  split <;> simp
@[simp] theorem State.cutWord_su (s : State) :
    s.cutWord.su = s.su := by
  unfold State.cutWord
  split <;> simp
@[simp] theorem State.cutWord_cc (s : State) :
    s.cutWord.cc = s.cc := by
  unfold State.cutWord
  split <;> simp
@[simp] theorem State.cutWord_ci (s : State) :
    s.cutWord.ci = s.ci := by
  unfold State.cutWord
  split <;> simp
@[simp] theorem State.cutWord_cec (s : State) :
    s.cutWord.cec = s.cec := by
  unfold State.cutWord
  split <;> simp
@[simp] theorem State.cutWord_tm (s : State) :
    s.cutWord.tm = s.tm := by
  unfold State.cutWord
  split <;> simp
@[simp] theorem State.cutWord_ess (s : State) :
    s.cutWord.ess = s.ess := by
  unfold State.cutWord
  split <;> simp
@[simp] theorem State.cutWord_ec (s : State) :
    s.cutWord.ec = s.ec := by
  unfold State.cutWord
  split <;> simp
@[simp] theorem State.cutWord_pwr (s : State) :
    s.cutWord.pwr = s.pwr := by
  unfold State.cutWord
  split <;> simp
@[simp] theorem State.cutWord_pins (s : State) :
    s.cutWord.pins = s.pins := by
  unfold State.cutWord
  split <;> simp
@[simp] theorem State.cutWord_pending (s : State) :
    s.cutWord.pending = s.pending := by
  unfold State.cutWord
  split <;> simp

@[simp] theorem State.fixWord_kt (c : ChannelNo) (s : State) :
    (s.fixWord c).kt = s.kt := rfl
@[simp] theorem State.fixWord_su (c : ChannelNo) (s : State) :
    (s.fixWord c).su = s.su := rfl
@[simp] theorem State.fixWord_cc (c : ChannelNo) (s : State) :
    (s.fixWord c).cc = s.cc := rfl
@[simp] theorem State.fixWord_ci (c : ChannelNo) (s : State) :
    (s.fixWord c).ci = s.ci := rfl
@[simp] theorem State.fixWord_cec (c : ChannelNo) (s : State) :
    (s.fixWord c).cec = s.cec := rfl
@[simp] theorem State.fixWord_tm (c : ChannelNo) (s : State) :
    (s.fixWord c).tm = s.tm := rfl
@[simp] theorem State.fixWord_ess (c : ChannelNo) (s : State) :
    (s.fixWord c).ess = s.ess := rfl
@[simp] theorem State.fixWord_ec (c : ChannelNo) (s : State) :
    (s.fixWord c).ec = s.ec := rfl
@[simp] theorem State.fixWord_pwr (c : ChannelNo) (s : State) :
    (s.fixWord c).pwr = s.pwr := rfl
@[simp] theorem State.fixWord_pins (c : ChannelNo) (s : State) :
    (s.fixWord c).pins = s.pins := rfl
@[simp] theorem State.fixWord_pending (c : ChannelNo) (s : State) :
    (s.fixWord c).pending = s.pending := rfl

@[simp] theorem State.receiveWord_kt (n : Nat) (x : Option RxWord) (s : State) :
    (s.receiveWord n x).kt = s.kt := by
  unfold State.receiveWord
  split <;> simp
@[simp] theorem State.receiveWord_su (n : Nat) (x : Option RxWord) (s : State) :
    (s.receiveWord n x).su = s.su := by
  unfold State.receiveWord
  split <;> simp
@[simp] theorem State.receiveWord_cc (n : Nat) (x : Option RxWord) (s : State) :
    (s.receiveWord n x).cc = s.cc := by
  unfold State.receiveWord
  split <;> simp
@[simp] theorem State.receiveWord_lhi (n : Nat) (x : Option RxWord) (s : State) :
    (s.receiveWord n x).lhi = s.lhi := by
  unfold State.receiveWord
  split <;> simp
@[simp] theorem State.receiveWord_ci (n : Nat) (x : Option RxWord) (s : State) :
    (s.receiveWord n x).ci = s.ci := by
  unfold State.receiveWord
  split <;> simp
@[simp] theorem State.receiveWord_cec (n : Nat) (x : Option RxWord) (s : State) :
    (s.receiveWord n x).cec = s.cec := by
  unfold State.receiveWord
  split <;> simp
@[simp] theorem State.receiveWord_tm (n : Nat) (x : Option RxWord) (s : State) :
    (s.receiveWord n x).tm = s.tm := by
  unfold State.receiveWord
  split <;> simp
@[simp] theorem State.receiveWord_ess (n : Nat) (x : Option RxWord) (s : State) :
    (s.receiveWord n x).ess = s.ess := by
  unfold State.receiveWord
  split <;> simp
@[simp] theorem State.receiveWord_ec (n : Nat) (x : Option RxWord) (s : State) :
    (s.receiveWord n x).ec = s.ec := by
  unfold State.receiveWord
  split <;> simp
@[simp] theorem State.receiveWord_pwr (n : Nat) (x : Option RxWord) (s : State) :
    (s.receiveWord n x).pwr = s.pwr := by
  unfold State.receiveWord
  split <;> simp
@[simp] theorem State.receiveWord_pins (n : Nat) (x : Option RxWord) (s : State) :
    (s.receiveWord n x).pins = s.pins := by
  unfold State.receiveWord
  split <;> simp
@[simp] theorem State.receiveWord_pending (n : Nat) (x : Option RxWord) (s : State) :
    (s.receiveWord n x).pending = s.pending := by
  unfold State.receiveWord
  split <;> simp

@[simp] theorem State.countWord_kt (s : State) :
    s.countWord.kt = s.kt := by
  unfold State.countWord
  split <;> simp
@[simp] theorem State.countWord_su (s : State) :
    s.countWord.su = s.su := by
  unfold State.countWord
  split <;> simp
@[simp] theorem State.countWord_cc (s : State) :
    s.countWord.cc = s.cc := by
  unfold State.countWord
  split <;> simp
@[simp] theorem State.countWord_ci (s : State) :
    s.countWord.ci = s.ci := by
  unfold State.countWord
  split <;> simp
@[simp] theorem State.countWord_cec (s : State) :
    s.countWord.cec = s.cec := by
  unfold State.countWord
  split <;> simp
@[simp] theorem State.countWord_tm (s : State) :
    s.countWord.tm = s.tm := by
  unfold State.countWord
  split <;> simp
@[simp] theorem State.countWord_ess (s : State) :
    s.countWord.ess = s.ess := by
  unfold State.countWord
  split <;> simp
@[simp] theorem State.countWord_ec (s : State) :
    s.countWord.ec = s.ec := by
  unfold State.countWord
  split <;> simp
@[simp] theorem State.countWord_pwr (s : State) :
    s.countWord.pwr = s.pwr := by
  unfold State.countWord
  split <;> simp
@[simp] theorem State.countWord_pins (s : State) :
    s.countWord.pins = s.pins := by
  unfold State.countWord
  split <;> simp
@[simp] theorem State.countWord_pending (s : State) :
    s.countWord.pending = s.pending := by
  unfold State.countWord
  split <;> simp

@[simp] theorem State.completeFrame_kt (s : State) :
    s.completeFrame.kt = s.kt := rfl
@[simp] theorem State.completeFrame_su (s : State) :
    s.completeFrame.su = s.su := rfl
@[simp] theorem State.completeFrame_cc (s : State) :
    s.completeFrame.cc = s.cc := rfl
@[simp] theorem State.completeFrame_ci (s : State) :
    s.completeFrame.ci = s.ci := rfl
@[simp] theorem State.completeFrame_cec (s : State) :
    s.completeFrame.cec = s.cec := rfl
@[simp] theorem State.completeFrame_tm (s : State) :
    s.completeFrame.tm = s.tm := rfl
@[simp] theorem State.completeFrame_ess (s : State) :
    s.completeFrame.ess = s.ess := rfl
@[simp] theorem State.completeFrame_ec (s : State) :
    s.completeFrame.ec = s.ec := rfl
@[simp] theorem State.completeFrame_pwr (s : State) :
    s.completeFrame.pwr = s.pwr := rfl
@[simp] theorem State.completeFrame_pins (s : State) :
    s.completeFrame.pins = s.pins := rfl
@[simp] theorem State.completeFrame_pending (s : State) :
    s.completeFrame.pending = s.pending := rfl

@[simp] theorem State.endSlot_kt (n : Nat) (x : Option RxWord) (b : Bool) (s : State) :
    (s.endSlot n x b).kt = s.kt := by
  unfold State.endSlot
  cases b <;> simp only [Bool.false_eq_true, if_false, if_true] <;> split <;> simp
@[simp] theorem State.endSlot_su (n : Nat) (x : Option RxWord) (b : Bool) (s : State) :
    (s.endSlot n x b).su = s.su := by
  unfold State.endSlot
  cases b <;> simp only [Bool.false_eq_true, if_false, if_true] <;> split <;> simp
@[simp] theorem State.endSlot_cc (n : Nat) (x : Option RxWord) (b : Bool) (s : State) :
    (s.endSlot n x b).cc = s.cc := by
  unfold State.endSlot
  cases b <;> simp only [Bool.false_eq_true, if_false, if_true] <;> split <;> simp
@[simp] theorem State.endSlot_ci (n : Nat) (x : Option RxWord) (b : Bool) (s : State) :
    (s.endSlot n x b).ci = s.ci := by
  unfold State.endSlot
  cases b <;> simp only [Bool.false_eq_true, if_false, if_true] <;> split <;> simp
@[simp] theorem State.endSlot_cec (n : Nat) (x : Option RxWord) (b : Bool) (s : State) :
    (s.endSlot n x b).cec = s.cec := by
  unfold State.endSlot
  cases b <;> simp only [Bool.false_eq_true, if_false, if_true] <;> split <;> simp
@[simp] theorem State.endSlot_tm (n : Nat) (x : Option RxWord) (b : Bool) (s : State) :
    (s.endSlot n x b).tm = s.tm := by
  unfold State.endSlot
  cases b <;> simp only [Bool.false_eq_true, if_false, if_true] <;> split <;> simp
@[simp] theorem State.endSlot_ess (n : Nat) (x : Option RxWord) (b : Bool) (s : State) :
    (s.endSlot n x b).ess = s.ess := by
  unfold State.endSlot
  cases b <;> simp only [Bool.false_eq_true, if_false, if_true] <;> split <;> simp
@[simp] theorem State.endSlot_ec (n : Nat) (x : Option RxWord) (b : Bool) (s : State) :
    (s.endSlot n x b).ec = s.ec := by
  unfold State.endSlot
  cases b <;> simp only [Bool.false_eq_true, if_false, if_true] <;> split <;> simp
@[simp] theorem State.endSlot_pwr (n : Nat) (x : Option RxWord) (b : Bool) (s : State) :
    (s.endSlot n x b).pwr = s.pwr := by
  unfold State.endSlot
  cases b <;> simp only [Bool.false_eq_true, if_false, if_true] <;> split <;> simp
@[simp] theorem State.endSlot_pins (n : Nat) (x : Option RxWord) (b : Bool) (s : State) :
    (s.endSlot n x b).pins = s.pins := by
  unfold State.endSlot
  cases b <;> simp only [Bool.false_eq_true, if_false, if_true] <;> split <;> simp
@[simp] theorem State.endSlot_pending (n : Nat) (x : Option RxWord) (b : Bool) (s : State) :
    (s.endSlot n x b).pending = s.pending := by
  unfold State.endSlot
  cases b <;> simp only [Bool.false_eq_true, if_false, if_true] <;> split <;> simp

/-! ## The lid sample interval (Table 9-3) -/

@[simp] theorem Supply.lidInterval_eraseStart (u : Supply) :
    u.eraseStart.lidInterval = u.lidInterval := by
  cases u with
  | restarting step cold => cases step <;> rfl
  | normal | hold => rfl

@[simp] theorem State.eraseStart_lidInterval (cause : Cause) (s : State) :
    (s.eraseStart cause).pwr.supply.lidInterval = s.pwr.supply.lidInterval := by
  simp [State.eraseStart, State.eraseCheck, State.eraseRecord, State.eraseService, State.eraseBegin]

@[simp] theorem State.trigger_lidInterval (cause : Cause) (s : State) :
    (s.trigger cause).pwr.supply.lidInterval = s.pwr.supply.lidInterval := by
  unfold State.trigger
  split
  · simp
  · rfl

@[simp] theorem State.judgeInHold_lidInterval (x : Option BatteryResult) (s : State) :
    (s.judgeInHold x).pwr.supply.lidInterval = s.pwr.supply.lidInterval := by
  unfold State.judgeInHold
  split
  · split <;> simp
  · rfl

@[simp] theorem State.cold_lidInterval (pins : Pins) :
    (State.cold pins).pwr.supply.lidInterval = Config.lidIntervalHold := rfl

@[simp] theorem State.holdEntry_lidInterval (s : State) :
    s.holdEntry.pwr.supply.lidInterval = Config.lidIntervalHold := by
  unfold State.holdEntry
  rw [State.judgeInHold_lidInterval]
  rfl

@[simp] theorem State.initialise_lidInterval (s : State) :
    s.initialise.pwr.supply.lidInterval = Config.lidIntervalNormal := rfl

/-! ## Sensing (R144 to R148, R158, R166) -/

@[simp] theorem State.evaluate_kt (m : Mesh) (x : Nat) (s : State) :
    (s.evaluate m x).kt = s.kt := by
  unfold State.evaluate
  dsimp only
  split
  · simp
  · split <;> simp
  · simp
@[simp] theorem State.evaluate_ess (m : Mesh) (x : Nat) (s : State) :
    (s.evaluate m x).ess = s.ess := by
  unfold State.evaluate
  dsimp only
  split
  · simp
  · split <;> simp
  · simp
@[simp] theorem State.evaluate_pins (m : Mesh) (x : Nat) (s : State) :
    (s.evaluate m x).pins = s.pins := by
  unfold State.evaluate
  dsimp only
  split
  · simp
  · split <;> simp
  · simp
@[simp] theorem State.evaluate_pending (m : Mesh) (x : Nat) (s : State) :
    (s.evaluate m x).pending = s.pending := by
  unfold State.evaluate
  dsimp only
  split
  · simp
  · split <;> simp
  · simp

@[simp] theorem State.takeReading_kt (m : Mesh) (x : Nat) (s : State) :
    (s.takeReading m x).kt = s.kt := by
  unfold State.takeReading
  split <;> simp
@[simp] theorem State.takeReading_ess (m : Mesh) (x : Nat) (s : State) :
    (s.takeReading m x).ess = s.ess := by
  unfold State.takeReading
  split <;> simp
@[simp] theorem State.takeReading_pins (m : Mesh) (x : Nat) (s : State) :
    (s.takeReading m x).pins = s.pins := by
  unfold State.takeReading
  split <;> simp
@[simp] theorem State.takeReading_pending (m : Mesh) (x : Nat) (s : State) :
    (s.takeReading m x).pending = s.pending := by
  unfold State.takeReading
  split <;> simp

@[simp] theorem State.completeConversion_kt (v : Conversion) (x : Nat) (s : State) :
    (s.completeConversion v x).kt = s.kt := by
  unfold State.completeConversion
  simp
@[simp] theorem State.completeConversion_ess (v : Conversion) (x : Nat) (s : State) :
    (s.completeConversion v x).ess = s.ess := by
  unfold State.completeConversion
  simp
@[simp] theorem State.completeConversion_pins (v : Conversion) (x : Nat) (s : State) :
    (s.completeConversion v x).pins = s.pins := by
  unfold State.completeConversion
  simp
@[simp] theorem State.completeConversion_pending (v : Conversion) (x : Nat) (s : State) :
    (s.completeConversion v x).pending = s.pending := by
  unfold State.completeConversion
  simp

@[simp] theorem State.reportIf_kt (b : Bool) (s : State) :
    (s.reportIf b).kt = s.kt := by
  unfold State.reportIf
  split <;> simp
@[simp] theorem State.reportIf_ess (b : Bool) (s : State) :
    (s.reportIf b).ess = s.ess := by
  unfold State.reportIf
  split <;> simp
@[simp] theorem State.reportIf_pins (b : Bool) (s : State) :
    (s.reportIf b).pins = s.pins := by
  unfold State.reportIf
  split <;> simp
@[simp] theorem State.reportIf_pending (b : Bool) (s : State) :
    (s.reportIf b).pending = s.pending := by
  unfold State.reportIf
  split <;> simp

@[simp] theorem State.judgeBattery_kt (x : BatteryResult) (s : State) :
    (s.judgeBattery x).kt = s.kt := by
  unfold State.judgeBattery
  split <;> simp
@[simp] theorem State.judgeBattery_ess (x : BatteryResult) (s : State) :
    (s.judgeBattery x).ess = s.ess := by
  unfold State.judgeBattery
  split <;> simp
@[simp] theorem State.judgeBattery_pins (x : BatteryResult) (s : State) :
    (s.judgeBattery x).pins = s.pins := by
  unfold State.judgeBattery
  split <;> simp
@[simp] theorem State.judgeBattery_pending (x : BatteryResult) (s : State) :
    (s.judgeBattery x).pending = s.pending := by
  unfold State.judgeBattery
  split <;> simp

/-! ## The supply and the timebase (R162 to R165, R184 to R189) -/

@[simp] theorem State.lowTimerFollows_kt (v : Nat) (s : State) :
    (s.lowTimerFollows v).kt = s.kt := by
  unfold State.lowTimerFollows
  split
  · split <;> rfl
  · rfl
@[simp] theorem State.lowTimerFollows_su (v : Nat) (s : State) :
    (s.lowTimerFollows v).su = s.su := by
  unfold State.lowTimerFollows
  split
  · split <;> rfl
  · rfl
@[simp] theorem State.lowTimerFollows_cc (v : Nat) (s : State) :
    (s.lowTimerFollows v).cc = s.cc := by
  unfold State.lowTimerFollows
  split
  · split <;> rfl
  · rfl
@[simp] theorem State.lowTimerFollows_channels (v : Nat) (s : State) :
    (s.lowTimerFollows v).channels = s.channels := by
  unfold State.lowTimerFollows
  split
  · split <;> rfl
  · rfl
@[simp] theorem State.lowTimerFollows_lhi (v : Nat) (s : State) :
    (s.lowTimerFollows v).lhi = s.lhi := by
  unfold State.lowTimerFollows
  split
  · split <;> rfl
  · rfl
@[simp] theorem State.lowTimerFollows_ci (v : Nat) (s : State) :
    (s.lowTimerFollows v).ci = s.ci := by
  unfold State.lowTimerFollows
  split
  · split <;> rfl
  · rfl
@[simp] theorem State.lowTimerFollows_cec (v : Nat) (s : State) :
    (s.lowTimerFollows v).cec = s.cec := by
  unfold State.lowTimerFollows
  split
  · split <;> rfl
  · rfl
@[simp] theorem State.lowTimerFollows_tm (v : Nat) (s : State) :
    (s.lowTimerFollows v).tm = s.tm := by
  unfold State.lowTimerFollows
  split
  · split <;> rfl
  · rfl
@[simp] theorem State.lowTimerFollows_ec (v : Nat) (s : State) :
    (s.lowTimerFollows v).ec = s.ec := by
  unfold State.lowTimerFollows
  split
  · split <;> rfl
  · rfl
@[simp] theorem State.lowTimerFollows_pins (v : Nat) (s : State) :
    (s.lowTimerFollows v).pins = s.pins := by
  unfold State.lowTimerFollows
  split
  · split <;> rfl
  · rfl
@[simp] theorem State.lowTimerFollows_pending (v : Nat) (s : State) :
    (s.lowTimerFollows v).pending = s.pending := by
  unfold State.lowTimerFollows
  split
  · split <;> rfl
  · rfl

@[simp] theorem State.returnTimerFollows_kt (v : Nat) (s : State) :
    (s.returnTimerFollows v).kt = s.kt := by
  unfold State.returnTimerFollows
  split
  · split <;> rfl
  · rfl
@[simp] theorem State.returnTimerFollows_su (v : Nat) (s : State) :
    (s.returnTimerFollows v).su = s.su := by
  unfold State.returnTimerFollows
  split
  · split <;> rfl
  · rfl
@[simp] theorem State.returnTimerFollows_cc (v : Nat) (s : State) :
    (s.returnTimerFollows v).cc = s.cc := by
  unfold State.returnTimerFollows
  split
  · split <;> rfl
  · rfl
@[simp] theorem State.returnTimerFollows_channels (v : Nat) (s : State) :
    (s.returnTimerFollows v).channels = s.channels := by
  unfold State.returnTimerFollows
  split
  · split <;> rfl
  · rfl
@[simp] theorem State.returnTimerFollows_lhi (v : Nat) (s : State) :
    (s.returnTimerFollows v).lhi = s.lhi := by
  unfold State.returnTimerFollows
  split
  · split <;> rfl
  · rfl
@[simp] theorem State.returnTimerFollows_ci (v : Nat) (s : State) :
    (s.returnTimerFollows v).ci = s.ci := by
  unfold State.returnTimerFollows
  split
  · split <;> rfl
  · rfl
@[simp] theorem State.returnTimerFollows_cec (v : Nat) (s : State) :
    (s.returnTimerFollows v).cec = s.cec := by
  unfold State.returnTimerFollows
  split
  · split <;> rfl
  · rfl
@[simp] theorem State.returnTimerFollows_tm (v : Nat) (s : State) :
    (s.returnTimerFollows v).tm = s.tm := by
  unfold State.returnTimerFollows
  split
  · split <;> rfl
  · rfl
@[simp] theorem State.returnTimerFollows_ec (v : Nat) (s : State) :
    (s.returnTimerFollows v).ec = s.ec := by
  unfold State.returnTimerFollows
  split
  · split <;> rfl
  · rfl
@[simp] theorem State.returnTimerFollows_pins (v : Nat) (s : State) :
    (s.returnTimerFollows v).pins = s.pins := by
  unfold State.returnTimerFollows
  split
  · split <;> rfl
  · rfl
@[simp] theorem State.returnTimerFollows_pending (v : Nat) (s : State) :
    (s.returnTimerFollows v).pending = s.pending := by
  unfold State.returnTimerFollows
  split
  · split <;> rfl
  · rfl

@[simp] theorem State.vddMoves_kt (v : SupplyPins) (s : State) :
    (s.vddMoves v).kt = s.kt := by
  unfold State.vddMoves
  dsimp only
  split <;> simp
@[simp] theorem State.vddMoves_su (v : SupplyPins) (s : State) :
    (s.vddMoves v).su = s.su := by
  unfold State.vddMoves
  dsimp only
  split <;> simp
@[simp] theorem State.vddMoves_cc (v : SupplyPins) (s : State) :
    (s.vddMoves v).cc = s.cc := by
  unfold State.vddMoves
  dsimp only
  split <;> simp
@[simp] theorem State.vddMoves_channels (v : SupplyPins) (s : State) :
    (s.vddMoves v).channels = s.channels := by
  unfold State.vddMoves
  dsimp only
  split <;> simp
@[simp] theorem State.vddMoves_lhi (v : SupplyPins) (s : State) :
    (s.vddMoves v).lhi = s.lhi := by
  unfold State.vddMoves
  dsimp only
  split <;> simp
@[simp] theorem State.vddMoves_ci (v : SupplyPins) (s : State) :
    (s.vddMoves v).ci = s.ci := by
  unfold State.vddMoves
  dsimp only
  split <;> simp
@[simp] theorem State.vddMoves_cec (v : SupplyPins) (s : State) :
    (s.vddMoves v).cec = s.cec := by
  unfold State.vddMoves
  dsimp only
  split <;> simp
@[simp] theorem State.vddMoves_tm (v : SupplyPins) (s : State) :
    (s.vddMoves v).tm = s.tm := by
  unfold State.vddMoves
  dsimp only
  split <;> simp
@[simp] theorem State.vddMoves_ec (v : SupplyPins) (s : State) :
    (s.vddMoves v).ec = s.ec := by
  unfold State.vddMoves
  dsimp only
  split <;> simp
@[simp] theorem State.vddMoves_pending (v : SupplyPins) (s : State) :
    (s.vddMoves v).pending = s.pending := by
  unfold State.vddMoves
  dsimp only
  split <;> simp

@[simp] theorem State.requestHold_kt (s : State) :
    s.requestHold.kt = s.kt := by
  unfold State.requestHold
  split <;> simp
@[simp] theorem State.requestHold_pins (s : State) :
    s.requestHold.pins = s.pins := by
  unfold State.requestHold
  split <;> simp
@[simp] theorem State.requestHold_pending (s : State) :
    s.requestHold.pending = s.pending := by
  unfold State.requestHold
  split <;> simp

@[simp] theorem State.requestRestart_kt (s : State) :
    s.requestRestart.kt = s.kt := by
  unfold State.requestRestart
  split <;> simp
@[simp] theorem State.requestRestart_ec (s : State) :
    s.requestRestart.ec = s.ec := by
  unfold State.requestRestart
  split <;> simp
@[simp] theorem State.requestRestart_pins (s : State) :
    s.requestRestart.pins = s.pins := by
  unfold State.requestRestart
  split <;> simp
@[simp] theorem State.requestRestart_pending (s : State) :
    s.requestRestart.pending = s.pending := by
  unfold State.requestRestart
  split <;> simp

@[simp] theorem State.requestReset_kt (s : State) :
    s.requestReset.kt = s.kt := by
  unfold State.requestReset
  split
  · split <;> simp
  · rfl
@[simp] theorem State.requestReset_ec (s : State) :
    s.requestReset.ec = s.ec := by
  unfold State.requestReset
  split
  · split <;> simp
  · rfl
@[simp] theorem State.requestReset_pins (s : State) :
    s.requestReset.pins = s.pins := by
  unfold State.requestReset
  split
  · split <;> simp
  · rfl
@[simp] theorem State.requestReset_pending (s : State) :
    s.requestReset.pending = s.pending := by
  unfold State.requestReset
  split
  · split <;> simp
  · rfl

@[simp] theorem State.releaseReset_kt (s : State) :
    s.releaseReset.kt = s.kt := by
  unfold State.releaseReset
  split
  · split <;> simp
  all_goals rfl
@[simp] theorem State.releaseReset_su (s : State) :
    s.releaseReset.su = s.su := by
  unfold State.releaseReset
  split
  · split <;> simp
  all_goals rfl
@[simp] theorem State.releaseReset_channels (s : State) :
    s.releaseReset.channels = s.channels := by
  unfold State.releaseReset
  split
  · split <;> simp
  all_goals rfl
@[simp] theorem State.releaseReset_cec (s : State) :
    s.releaseReset.cec = s.cec := by
  unfold State.releaseReset
  split
  · split <;> simp
  all_goals rfl
@[simp] theorem State.releaseReset_tm (s : State) :
    s.releaseReset.tm = s.tm := by
  unfold State.releaseReset
  split
  · split <;> simp
  all_goals rfl
@[simp] theorem State.releaseReset_ess (s : State) :
    s.releaseReset.ess = s.ess := by
  unfold State.releaseReset
  split
  · split <;> simp
  all_goals rfl
@[simp] theorem State.releaseReset_ec (s : State) :
    s.releaseReset.ec = s.ec := by
  unfold State.releaseReset
  split
  · split <;> simp
  all_goals rfl
@[simp] theorem State.releaseReset_pins (s : State) :
    s.releaseReset.pins = s.pins := by
  unfold State.releaseReset
  split
  · split <;> simp
  all_goals rfl
@[simp] theorem State.releaseReset_pending (s : State) :
    s.releaseReset.pending = s.pending := by
  unfold State.releaseReset
  split
  · split <;> simp
  all_goals rfl

@[simp] theorem State.expireChallenge_kt (s : State) :
    s.expireChallenge.kt = s.kt := by
  unfold State.expireChallenge
  split
  · rfl
  · split <;> simp
@[simp] theorem State.expireChallenge_su (s : State) :
    s.expireChallenge.su = s.su := by
  unfold State.expireChallenge
  split
  · rfl
  · split <;> simp
@[simp] theorem State.expireChallenge_cc (s : State) :
    s.expireChallenge.cc = s.cc := by
  unfold State.expireChallenge
  split
  · rfl
  · split <;> simp
@[simp] theorem State.expireChallenge_channels (s : State) :
    s.expireChallenge.channels = s.channels := by
  unfold State.expireChallenge
  split
  · rfl
  · split <;> simp
@[simp] theorem State.expireChallenge_lhi (s : State) :
    s.expireChallenge.lhi = s.lhi := by
  unfold State.expireChallenge
  split
  · rfl
  · split <;> simp
@[simp] theorem State.expireChallenge_cec (s : State) :
    s.expireChallenge.cec = s.cec := by
  unfold State.expireChallenge
  split
  · rfl
  · split <;> simp
@[simp] theorem State.expireChallenge_tm (s : State) :
    s.expireChallenge.tm = s.tm := by
  unfold State.expireChallenge
  split
  · rfl
  · split <;> simp
@[simp] theorem State.expireChallenge_ess (s : State) :
    s.expireChallenge.ess = s.ess := by
  unfold State.expireChallenge
  split
  · rfl
  · split <;> simp
@[simp] theorem State.expireChallenge_ec (s : State) :
    s.expireChallenge.ec = s.ec := by
  unfold State.expireChallenge
  split
  · rfl
  · split <;> simp
@[simp] theorem State.expireChallenge_pwr (s : State) :
    s.expireChallenge.pwr = s.pwr := by
  unfold State.expireChallenge
  split
  · rfl
  · split <;> simp
@[simp] theorem State.expireChallenge_pins (s : State) :
    s.expireChallenge.pins = s.pins := by
  unfold State.expireChallenge
  split
  · rfl
  · split <;> simp
@[simp] theorem State.expireChallenge_pending (s : State) :
    s.expireChallenge.pending = s.pending := by
  unfold State.expireChallenge
  split
  · rfl
  · split <;> simp

@[simp] theorem State.startSample_kt (s : State) :
    s.startSample.kt = s.kt := by
  unfold State.startSample
  split <;> simp
@[simp] theorem State.startSample_su (s : State) :
    s.startSample.su = s.su := by
  unfold State.startSample
  split <;> simp
@[simp] theorem State.startSample_cc (s : State) :
    s.startSample.cc = s.cc := by
  unfold State.startSample
  split <;> simp
@[simp] theorem State.startSample_channels (s : State) :
    s.startSample.channels = s.channels := by
  unfold State.startSample
  split <;> simp
@[simp] theorem State.startSample_lhi (s : State) :
    s.startSample.lhi = s.lhi := by
  unfold State.startSample
  split <;> simp
@[simp] theorem State.startSample_ci (s : State) :
    s.startSample.ci = s.ci := by
  unfold State.startSample
  split <;> simp
@[simp] theorem State.startSample_cec (s : State) :
    s.startSample.cec = s.cec := by
  unfold State.startSample
  split <;> simp
@[simp] theorem State.startSample_tm (s : State) :
    s.startSample.tm = s.tm := by
  unfold State.startSample
  split <;> simp
@[simp] theorem State.startSample_ec (s : State) :
    s.startSample.ec = s.ec := by
  unfold State.startSample
  split <;> simp
@[simp] theorem State.startSample_pwr (s : State) :
    s.startSample.pwr = s.pwr := by
  unfold State.startSample
  split <;> simp
@[simp] theorem State.startSample_pins (s : State) :
    s.startSample.pins = s.pins := by
  unfold State.startSample
  split <;> simp
@[simp] theorem State.startSample_pending (s : State) :
    s.startSample.pending = s.pending := by
  unfold State.startSample
  split <;> simp

end Sys2Proof.Machine
end

