-- ==== Sys2Proof/Laws/EntryChange.lean ====
section
/-! SUPPORT. Everything a command can do to an entry of the Key Table, said once: `exec_entry`. Later
proofs about entries go by cases on `Entry.Change`. -/

namespace Sys2Proof.Machine

/-- The changes of an entry (Table 2-2, R13 to R16). -/
inductive Entry.Change (e : Entry) : Entry → Prop where
  | same : Change e e
  | emptied : Change e .empty
  | granted (k : Nat) (e' : Entry) (h : e.grant k = some e') : Change e e'
  | revoked (e' : Entry) (h : e.revoke = some e') : Change e e'
  | rights (r : Byte) (e' : Entry) (h : e.setRights r = some e') : Change e e'
  | label (l : List Byte) (e' : Entry) (h : e.setLabel l = some e') : Change e e'
  | suspended (e' : Entry) (h : e.suspend = some e') : Change e e'
  | resumed (e' : Entry) (h : e.resume = some e') : Change e e'
  | dropped (e' : Entry) (h : e.dropPrevious = some e') : Change e e'
  | charged (k : Nat) : Change e (e.charge k)
  | newKey (i : IssuerTag) (l : List Byte) (r : Byte) (g : Generation) (now : Seconds) (e' : Entry)
      (h : e.installNewKey i l r g now = some e') : Change e e'
  | rolledOver (i : IssuerTag) (g : Generation) (now : Seconds) (e' : Entry)
      (h : e.installRollover i g now = some e') : Change e e'
  | checked (a b : CheckValue) : Change e (e.selfCheck a b).1

/-- Every entry changes in one of these ways or not at all. -/
def State.EntriesChange (s t : State) : Prop :=
  ∀ i : EntryIndex, (s.entry i).Change (t.entry i)

theorem State.EntriesChange.of_kt {s t : State} (h : t.kt = s.kt) : s.EntriesChange t := fun i => by
  rw [State.entry_congr h]
  exact .same

theorem State.EntriesChange.of_entries {s t : State} (h : t.kt.entries = s.kt.entries) :
    s.EntriesChange t := fun i => by
  have : t.entry i = s.entry i := by simp [State.entry, h]
  rw [this]
  exact .same

/-- One entry changes. -/
theorem State.EntriesChange.of_setEntry {s t : State} (i : EntryIndex) (e : Entry)
    (c : (s.entry i).Change e) (h : t.kt = (s.setEntry i e).kt) : s.EntriesChange t := fun j => by
  rw [State.entry_congr h, State.entry_setEntry]
  split
  · rename_i q
    subst q
    exact c
  · exact .same

theorem State.EntriesChange.congr {s t s' t' : State} (c : s.EntriesChange t) (hs : s'.kt = s.kt)
    (ht : t'.kt = t.kt) : s'.EntriesChange t' := fun i => by
  rw [State.entry_congr hs, State.entry_congr ht]
  exact c i

/-! ## The operations that reach an entry -/

theorem onEntry_change (b : Byte) (f : Entry → Option Entry) (s : State)
    (h : ∀ e e', f e = some e' → e.Change e') : s.EntriesChange (s.onEntry b f).state := by
  unfold State.onEntry
  split
  · exact .of_kt rfl
  · split
    · exact .of_kt rfl
    · exact .of_setEntry _ _ (h _ _ ‹_›) rfl

theorem retire_change (e e' : Entry) (h : e.retire = some e') : e.Change e' := by
  unfold Entry.retire at h
  split at h <;> simp at h <;> subst h <;> exact .emptied

theorem serve_change (c : Command) (d : Block) (s : State) (r : Served) (h : s.serve c d = some r) :
    s.EntriesChange r.state := by
  cases c <;> simp only [State.serve, Option.some.injEq, reduceCtorEq] at h <;> (try subst h)
  case grantAllowance =>
    unfold State.serveGrant
    split
    · exact .of_kt rfl
    · exact onEntry_change _ _ _ fun _ _ q => .granted _ _ q
  case revokeAllowance => exact onEntry_change _ _ _ fun _ _ q => .revoked _ q
  case setRights => exact onEntry_change _ _ _ fun _ _ q => .rights _ _ q
  case setLabel =>
    unfold State.serveLabel
    split
    · exact onEntry_change _ _ _ fun _ _ q => .label _ _ q
    · exact .of_kt rfl
  case suspendEntry => exact onEntry_change _ _ _ fun _ _ q => .suspended _ q
  case resumeEntry => exact onEntry_change _ _ _ fun _ _ q => .resumed _ q
  case retireEntry => exact onEntry_change _ _ _ retire_change
  case dropPrevious => exact onEntry_change _ _ _ fun _ _ q => .dropped _ q
  case setAllowanceThreshold => exact .of_entries rfl
  all_goals exact .of_kt (by simp)

theorem completeCommand_change (d : Block) (s : State) : s.EntriesChange (s.completeCommand d) := by
  unfold State.completeCommand
  split
  · split
    · rename_i h
      exact (serve_change _ _ _ _ h).congr rfl (by simp)
    · exact .of_kt (by simp)
    · exact .of_kt rfl
  all_goals exact .of_kt rfl

theorem startCommand_change (c : Command) (s : State) : s.EntriesChange (s.startCommand c) := by
  unfold State.startCommand
  split
  · exact .of_kt (by simp)
  · exact .of_kt (by simp)
  · exact .of_kt (by simp)
  · exact .of_kt (by simp)
  · exact .of_kt (by simp)
  · split
    · exact completeCommand_change _ _
    · exact .of_kt rfl

theorem takeCommand_change (c : Command) (s : State) : s.EntriesChange (s.takeCommand c) := by
  unfold State.takeCommand
  split
  · exact .of_kt (by simp)
  · exact (startCommand_change _ _).congr (by simp) rfl

/-- Every entry is EMPTY at a cold start (Table 2-3). -/
theorem State.cold_entry (pins : Pins) (q : List Instr) (i : EntryIndex) :
    ((State.cold pins).withPending q).entry i = .empty := by
  simp [State.entry, State.cold]

/-- Without its feed the table holds no entry (R167). -/
theorem State.unfed_entry (s : State) (i : EntryIndex) : s.unfed.entry i = .empty :=
  State.cold_entry s.pins s.pending i

/-- Serving a command that acts when it is taken leaves the Key Table. -/
theorem serve_kt_acting (c : Command) (d : Block) (s : State) (r : Served)
    (a : c.actsAtTake = true) (h : s.serve c d = some r) : r.state.kt = s.kt := by
  cases c <;> simp only [Command.actsAtTake, Bool.false_eq_true] at a <;>
    simp only [State.serve, Option.some.injEq] at h <;> subst h <;> simp

/-- The take of a command leaves the Key Table: entries change at completion (R124). -/
theorem takeCommand_kt (c : Command) (s : State) : (s.takeCommand c).kt = s.kt := by
  unfold State.takeCommand
  split
  · simp
  · unfold State.startCommand
    split
    · simp
    · simp
    · simp
    · simp
    · simp
    · split
      · rename_i a
        unfold State.completeCommand
        split
        · rename_i c' q
          have : c' = c := by
            simp only [State.accept, State.withCi_ci, Port.executing.injEq] at q
            exact q.symm
          subst this
          split
          · rename_i h
            simp [serve_kt_acting _ _ _ _ a h]
          · simp
          · simp
        all_goals simp
      · simp

theorem commandRow_change (c : Command) (d : Block) (s : State) :
    s.EntriesChange (s.commandRow c d) := by
  unfold State.commandRow
  split
  · exact (completeCommand_change _ _).congr (takeCommand_kt _ _).symm rfl
  all_goals exact .of_kt rfl

theorem portWrite_kt (b : List Byte) (s : State) : (s.portWrite b).kt = s.kt := by
  unfold State.portWrite
  split
  · split
    · rfl
    · simp
    · simp
    · exact takeCommand_kt _ _
  all_goals rfl

theorem portWriteAt_kt (w : WriteTransaction) (s : State) :
    (s.portWriteAt w).kt = s.kt := by
  unfold State.portWriteAt
  split
  · exact portWrite_kt _ _
  · rfl

theorem install_change (x : CeremonyTarget) (g : Generation) (s : State) :
    s.EntriesChange (s.install x g) := by
  unfold State.install
  split
  · split
    · rename_i h
      exact .of_setEntry _ _ (.newKey _ _ _ _ _ _ h) rfl
    · exact .of_kt rfl
  · split
    · rename_i h
      exact .of_setEntry _ _ (.rolledOver _ _ _ _ h) rfl
    · exact .of_kt rfl
  · split
    · exact .of_kt rfl
    · exact .of_kt rfl

theorem deliverResults_change (j : Job) (s : State) : s.EntriesChange (s.deliverResults j) := by
  have check : ∀ o, s.EntriesChange (s.completeCheck o) := by
    intro o
    unfold State.completeCheck
    split
    · unfold State.applyCheck
      split
      · rename_i i _
        exact .of_setEntry i _ (.checked (resultCheck o 0) (resultCheck o 1)) (by simp)
      · exact .of_kt (by simp)
    all_goals exact .of_kt rfl
  unfold State.deliverResults
  split
  · exact .of_kt (by simp)
  · exact .of_kt (by simp)
  · exact .of_kt (by simp)
  · unfold State.completeCommit
    split
    · split
      · exact .of_kt (by simp)
      · rename_i x _ _ _ _
        intro i
        rw [State.entry_congr (State.finish_kt ..)]
        exact install_change x.target _ s i
    · exact .of_kt (by simp)
    · exact .of_kt rfl
  · exact check _
  · exact check _

theorem startService_change (c : ChannelNo) (r : Request) (s t : State)
    (h : s.startService c r = .next t) : s.EntriesChange t := by
  unfold State.startService at h
  split at h
  · cases h
    exact .of_kt (by simp)
  · cases h
    exact .of_kt (by simp)
  · unfold State.startDerive at h
    dsimp only at h
    split at h
    · cases h
      exact .of_kt (by simp)
    · split at h
      · cases h
        exact .of_kt (by simp)
      · split at h
        · cases h
        · cases h
          unfold State.bindDerive State.chargeEntry
          rename_i body _ _ _ _ _ _ _ _ _
          exact .of_setEntry body.entry _ (.charged body.count) (by simp)

/-- What a command does to every entry. -/
theorem exec_entry (c : Instr) (s t : State) (h : exec c s = .next t) : s.EntriesChange t := by
  cases c
  case suSelection =>
    unfold exec execSuSelection at h
    dsimp only at h
    split at h
    · split at h
      · exact (startService_change _ _ _ _ h).congr (by simp) rfl
      · cases h
        exact .of_kt rfl
    all_goals
      cases h
      exact .of_kt rfl
  case ccClaimComplete =>
    unfold exec execCcClaimComplete at h
    dsimp only at h
    split at h
    · cases h
      exact .of_kt rfl
    · cases h
      rename_i claim _
      exact (deliverResults_change claim.job (s.withCc s.cc.release)).congr rfl rfl
  case commandComplete => cases h; exact completeCommand_change _ _
  case badFrame => cases h; exact .of_kt (portWriteAt_kt _ _)
  case commandTaken => cases h; exact .of_kt (portWriteAt_kt _ _)
  case openCeremony =>
    unfold exec execOpenCeremony at h
    dsimp only at h
    split at h
    · cases h
      exact commandRow_change _ _ _
    · split at h <;> cases h <;> exact .of_kt (by simp)
  case status | challenge | respond | readEvents | readTamperRecord | logoff | cancelCeremony | zeroize
      | measureNow | readEntry | readChannel | readMesh | setEventEnables | enterComponent | commit =>
    cases h
    exact commandRow_change _ _ _
  case eraseEntry =>
    unfold exec execEraseEntry at h
    dsimp only at h
    split at h
    · cases h
      exact .of_kt rfl
    · cases h
      rename_i i _
      refine .of_setEntry i .empty .emptied ?_
      unfold State.eraseAt
      dsimp only
      split
      · rfl
      · simp [State.setEntry]
  case coldStart =>
    unfold exec execColdStart at h
    dsimp only at h
    split at h
    · cases h
      intro i
      rw [State.cold_entry]
      exact .emptied
    · cases h
      exact .of_kt rfl
  case frameStart =>
    unfold exec execFrameStart at h
    dsimp only at h
    split at h <;> cases h <;> exact .of_kt rfl
  case earlyFrameSync =>
    unfold exec execEarlyFrameSync at h
    dsimp only at h
    split at h <;> cases h <;> exact .of_kt (by simp)
  case slotWordFixed =>
    unfold exec execSlotWordFixed at h
    dsimp only at h
    repeat' split at h
    all_goals
      cases h
      exact .of_kt rfl
  case slotEnd =>
    unfold exec execSlotEnd at h
    dsimp only at h
    split at h <;> cases h <;> exact .of_kt (by simp)
  case assemblyTimeout =>
    unfold exec execAssemblyTimeout at h
    dsimp only at h
    split at h <;> cases h <;> exact .of_kt rfl
  case highwayRunning =>
    unfold exec execHighwayRunning at h
    dsimp only at h
    split at h <;> cases h <;> exact .of_kt rfl
  case cabinetSecondAdvance =>
    cases h
    exact .of_kt (by simp)
  case windowExpiry =>
    unfold exec execWindowExpiry at h
    dsimp only at h
    split at h <;> cases h <;> exact .of_kt (by simp)
  case challengeExpiry =>
    cases h
    exact .of_kt (by simp)
  case batterySampleLatch =>
    unfold exec execBatterySampleLatch at h
    dsimp only at h
    split at h <;> cases h <;> exact .of_kt (by simp)
  case conversionComplete =>
    unfold exec execConversionComplete at h
    dsimp only at h
    split at h <;> cases h <;> exact .of_kt (by simp)
  case holdConversionStart =>
    unfold exec execHoldConversionStart at h
    dsimp only at h
    split at h <;> cases h <;> exact .of_kt rfl
  case lidSample =>
    cases h
    exact .of_kt (by simp)
  case emzFallingEdge =>
    unfold exec execEmzFallingEdge at h
    dsimp only at h
    split at h <;> cases h <;> exact .of_kt (by simp)
  case emzRisingEdge => cases h; exact .of_kt rfl
  case vddBelowCriterion =>
    unfold exec execVddBelowCriterion at h
    dsimp only at h
    split at h <;> cases h <;> exact .of_kt (by simp)
  case vddAtCriterion =>
    unfold exec execVddAtCriterion at h
    dsimp only at h
    split at h <;> cases h <;> exact .of_kt (by simp)
  case vddAboveReturnLevel =>
    unfold exec execVddAboveReturnLevel at h
    dsimp only at h
    split at h <;> cases h <;> exact .of_kt (by simp)
  case vddAtReturnLevel =>
    unfold exec execVddAtReturnLevel at h
    dsimp only at h
    split at h <;> cases h <;> exact .of_kt (by simp)
  case lowTimerExpiry =>
    unfold exec execLowTimerExpiry at h
    dsimp only at h
    split at h <;> cases h <;> exact .of_kt (by simp)
  case returnTimerExpiry =>
    unfold exec execReturnTimerExpiry at h
    dsimp only at h
    split at h <;> cases h <;> exact .of_kt (by simp)
  case resetLow => cases h; exact .of_kt (by simp)
  case resetRelease => cases h; exact .of_kt (by simp)
  case retentionFeedLoss =>
    cases h
    intro i
    rw [State.unfed_entry]
    exact .emptied

end Sys2Proof.Machine
end

