-- ==== Sys2Proof/Laws/PerInstr.lean ====
section
/-! SUPPORT. The one law that is stated for every command as syntax: no table word spells it, since no
row of spec/opcode_table.json gives bits. -/

namespace Sys2Proof.Laws.NoTableWord

/-- No word of the table spells this command. -/
def Statement (i : Instr) : Prop :=
  ∀ nbits w : Nat, decodeTableWord nbits w ≠ some i

/-- The answer is `none` for every word. -/
theorem of_none (i : Instr) : Statement i := by
  intro nbits w h
  cases h

theorem frameStart : Statement .frameStart :=
  of_none _

theorem earlyFrameSync : Statement .earlyFrameSync :=
  of_none _

theorem slotWordFixed : Statement .slotWordFixed :=
  of_none _

theorem slotEnd (hrd hrm : Word) (sentFirst : Bool) :
    Statement (.slotEnd hrd hrm sentFirst) :=
  of_none _

theorem assemblyTimeout (channel : ChannelNo) :
    Statement (.assemblyTimeout channel) :=
  of_none _

theorem highwayRunning : Statement .highwayRunning :=
  of_none _

theorem suSelection : Statement .suSelection :=
  of_none _

theorem ccClaimComplete : Statement .ccClaimComplete :=
  of_none _

theorem badFrame (write : WriteTransaction) :
    Statement (.badFrame write) :=
  of_none _

theorem commandComplete (draw : Block) :
    Statement (.commandComplete draw) :=
  of_none _

theorem status : Statement .status :=
  of_none _

theorem challenge (draw : Block) :
    Statement (.challenge draw) :=
  of_none _

theorem respond (custodian : Byte) (response : Block) :
    Statement (.respond custodian response) :=
  of_none _

theorem readEvents : Statement .readEvents :=
  of_none _

theorem readTamperRecord : Statement .readTamperRecord :=
  of_none _

theorem logoff (custodian : Byte) :
    Statement (.logoff custodian) :=
  of_none _

theorem cancelCeremony : Statement .cancelCeremony :=
  of_none _

theorem zeroize : Statement .zeroize :=
  of_none _

theorem measureNow : Statement .measureNow :=
  of_none _

theorem readEntry (index : Byte) :
    Statement (.readEntry index) :=
  of_none _

theorem readChannel (channel : Byte) :
    Statement (.readChannel channel) :=
  of_none _

theorem readMesh : Statement .readMesh :=
  of_none _

theorem setEventEnables (enables : BitVec 16) :
    Statement (.setEventEnables enables) :=
  of_none _

theorem openCeremony (kind target generation components : Byte) (issuer : IssuerTag)
    (rights labelLength : Byte) (label : List Byte) :
    Statement (.openCeremony kind target generation components issuer rights labelLength label) :=
  of_none _

theorem enterComponent (custodian : Byte) (block1 block2 : Block) (check : CheckValue) :
    Statement (.enterComponent custodian block1 block2 check) :=
  of_none _

theorem commit (expected : CheckValue) :
    Statement (.commit expected) :=
  of_none _

theorem cabinetSecondAdvance : Statement .cabinetSecondAdvance :=
  of_none _

theorem windowExpiry : Statement .windowExpiry :=
  of_none _

theorem challengeExpiry : Statement .challengeExpiry :=
  of_none _

theorem batterySampleLatch (vbat : Nat) :
    Statement (.batterySampleLatch vbat) :=
  of_none _

theorem conversionComplete (crossing : Nat) :
    Statement (.conversionComplete crossing) :=
  of_none _

theorem holdConversionStart : Statement .holdConversionStart :=
  of_none _

theorem lidSample (aOpen bOpen : Bool) :
    Statement (.lidSample aOpen bOpen) :=
  of_none _

theorem emzFallingEdge : Statement .emzFallingEdge :=
  of_none _

theorem emzRisingEdge : Statement .emzRisingEdge :=
  of_none _

theorem vddBelowCriterion (pins : SupplyPins) :
    Statement (.vddBelowCriterion pins) :=
  of_none _

theorem vddAtCriterion (pins : SupplyPins) :
    Statement (.vddAtCriterion pins) :=
  of_none _

theorem lowTimerExpiry : Statement .lowTimerExpiry :=
  of_none _

theorem vddAboveReturnLevel (pins : SupplyPins) :
    Statement (.vddAboveReturnLevel pins) :=
  of_none _

theorem vddAtReturnLevel (pins : SupplyPins) :
    Statement (.vddAtReturnLevel pins) :=
  of_none _

theorem returnTimerExpiry : Statement .returnTimerExpiry :=
  of_none _

theorem resetLow : Statement .resetLow :=
  of_none _

theorem resetRelease : Statement .resetRelease :=
  of_none _

theorem retentionFeedLoss : Statement .retentionFeedLoss :=
  of_none _

theorem coldStart (emzHigh : Bool) (adr : BitVec 2) (vdd : Nat) :
    Statement (.coldStart emzHigh adr vdd) :=
  of_none _

theorem eraseEntry : Statement .eraseEntry :=
  of_none _

theorem commandTaken (write : WriteTransaction) :
    Statement (.commandTaken write) :=
  of_none _

end Sys2Proof.Laws.NoTableWord
end

