-- ==== Sys2Proof/Laws/Receive.lean ====
section
/-! SUPPORT. What the bit periods of a slot sample, said once (R69, R74): the word that SLOT_END hands
over is the one that `State.Receives` names. -/

namespace Sys2Proof.Machine

/-- The bit that one bit period samples, at its place (R69). -/
theorem sampleLevel_getLsbD (pins : Pins) (bit n : Nat) (h : bit < 32) :
    (if pins.hrd.getLsbD bit then 1#32 <<< bit else 0#32).getLsbD n =
      (decide (n = bit) && pins.hrd.getLsbD bit) := by
  by_cases e : n = bit
  · subst e
    cases q : pins.hrd.getLsbD n <;> simp [h]
  · cases q : pins.hrd.getLsbD bit <;> simp [e]
    intro a b c
    omega

/-- The first bit period samples the mark and bit 31 (R69). -/
theorem sampleBit_first (pins : Pins) (rx : Option RxWord) :
    ∃ r, sampleBit pins 31 rx = some r ∧ r.mark = pins.hrm.getLsbD 31 ∧
      ∀ n, r.data.getLsbD n = (decide (n = 31) && pins.hrd.getLsbD 31) := by
  refine ⟨_, rfl, rfl, fun n => ?_⟩
  exact sampleLevel_getLsbD pins 31 n (by decide)

/-- Every other bit period samples HRD alone (R69). -/
theorem sampleBit_later (pins : Pins) (bit : Nat) (h : bit < 31) (r : RxWord) :
    ∃ x, sampleBit pins bit (some r) = some x ∧ x.mark = r.mark ∧
      ∀ n, x.data.getLsbD n =
        (r.data.getLsbD n || (decide (n = bit) && pins.hrd.getLsbD bit)) := by
  have ne : bit ≠ 31 := by omega
  refine ⟨{ r with data := r.data ||| if pins.hrd.getLsbD bit then 1#32 <<< bit else 0#32 },
    by simp [sampleBit, ne], rfl, fun n => ?_⟩
  rw [BitVec.getLsbD_or, sampleLevel_getLsbD pins bit n (by omega)]

/-- The rest of a slot after its first bit period adds the bits still to come (R69). -/
theorem sampleRest_later (pins : Pins) : ∀ (bit : Nat), bit < 31 → ∀ r : RxWord,
    ∃ x, sampleRest pins bit (some r) = some x ∧ x.mark = r.mark ∧
      ∀ n, x.data.getLsbD n =
        (r.data.getLsbD n || (decide (n ≤ bit) && pins.hrd.getLsbD n))
  | 0, h, r => by
    obtain ⟨x, hx, hm, hd⟩ := sampleBit_later pins 0 h r
    refine ⟨x, hx, hm, fun n => ?_⟩
    rw [hd]
    by_cases e : n = 0 <;> simp [e]
  | bit + 1, h, r => by
    obtain ⟨x, hx, hm, hd⟩ := sampleBit_later pins (bit + 1) h r
    obtain ⟨y, hy, hn, he⟩ := sampleRest_later pins bit (by omega) x
    refine ⟨y, by simp only [sampleRest, hx, hy], hn.trans hm, fun n => ?_⟩
    rw [he, hd]
    by_cases e : n = bit + 1
    · subst e
      simp
    · have : (n ≤ bit + 1) = (n ≤ bit) := by
        apply propext
        omega
      simp [e, this]

/-- SLOT_END hands over the word that the slot receives under the levels it brings (R74). -/
theorem sampleRest_receives (pins : Pins) (s : State) (h : s.HighwayLaw) (slot bit : Nat)
    (p : s.lhi.highway = .running (.inFrame slot bit)) :
    ∃ r, sampleRest pins bit s.lhi.rx = some r ∧
      s.Receives bit pins.hrd pins.hrm r.mark r.data := by
  have le := (h.position slot bit p).2
  by_cases e : bit = 31
  · subst e
    have none : s.lhi.rx = none := by
      by_contra c
      obtain ⟨slot', bit', p', lt⟩ := h.received.mp c
      rw [p] at p'
      cases p'
      omega
    obtain ⟨x, hx, hm, hd⟩ := sampleBit_first pins s.lhi.rx
    obtain ⟨y, hy, hn, he⟩ := sampleRest_later pins 30 (by decide) x
    refine ⟨y, by simp only [sampleRest, hx] at hy ⊢; exact hy, ?_, fun n lt => ?_⟩
    · simp [none, hn, hm]
    · rw [he, hd]
      by_cases q : n = 31
      · subst q
        simp
      · have : n ≤ 30 := by omega
        have : n ≤ 31 := by omega
        simp [*]
  · have lt : bit < 31 := by omega
    obtain ⟨old, ho⟩ := Option.ne_none_iff_exists'.mp (h.received.mpr ⟨slot, bit, p, lt⟩)
    obtain ⟨y, hy, hn, he⟩ := sampleRest_later pins bit lt old
    refine ⟨y, by rw [ho, hy], by simp [ho, hn], fun n _ => ?_⟩
    rw [he, ho]
    by_cases q : n ≤ bit
    · simp [q, h.sampled slot bit old p ho n q]
    · simp [q]

/-- A slot receives one word (R74). -/
theorem State.Receives.unique {bit : Nat} {hrd hrm : Word} {m m' : Bool} {w w' : Word} {s : State}
    (h : s.Receives bit hrd hrm m w) (h' : s.Receives bit hrd hrm m' w') : m = m' ∧ w = w' := by
  refine ⟨h.1.trans h'.1.symm, BitVec.eq_of_getLsbD_eq fun n lt => ?_⟩
  rw [h.2 n lt, h'.2 n lt]

end Sys2Proof.Machine
end

