-- ==== Sys2Proof/Laws/Spelling.lean ====
section
/-! SUPPORT. The numbers of console parameters: what the decoder reads is what the statements spell. -/

namespace Sys2Proof.Machine

theorem spelledNumber_succ (p : List Byte) (i n : Nat) :
    spelledNumber p i (n + 1) = 256 * spelledNumber p i n + (p.getD (i + n) 0).toNat := by
  simp [spelledNumber, List.range_succ]

/-- The model reads a number of the parameters as the statements spell it (05 6.8). -/
theorem bytesNat_eq_spelledNumber (p : List Byte) (i n : Nat) (h : i + n ≤ p.length) :
    bytesNat ((p.drop i).take n) = spelledNumber p i n := by
  induction n with
  | zero => simp [bytesNat, spelledNumber]
  | succ n ih =>
    have lt : i + n < p.length := by omega
    rw [spelledNumber_succ, ← ih (by omega), List.take_add_one]
    simp [bytesNat, List.getElem?_drop, lt, Nat.mul_comm]

theorem paramVec_eq_spelledNumber (w : Nat) (p : List Byte) (i n : Nat) (h : i + n ≤ p.length) :
    paramVec w p i n = BitVec.ofNat w (spelledNumber p i n) := by
  simp [paramVec, bytesVec, bytesNat_eq_spelledNumber p i n h]

end Sys2Proof.Machine
end

