-- ==== Sys2Proof/WellFormed.lean ====
section
/-! DEFINITION. Which operands the rows of the opcode table can carry: a write transaction of
BAD_FRAME holds no well-formed command, one of COMMAND_TAKEN holds one, and the label of an
OPEN_CEREMONY row fits a frame of 8 to 24 parameter bytes (R91, Table 6-8). Every other operand has
its range in its type. -/

namespace Sys2Proof

/-- The operands of a command are ones its row can carry. -/
def Instr.wellFormed : Instr → Bool
  | .badFrame write =>
    match Machine.readFrame write.bytes with
    | .command _ => false
    | .emptyWrite | .bad | .unknown => true
  | .commandTaken write =>
    match Machine.readFrame write.bytes with
    | .command _ => true
    | .emptyWrite | .bad | .unknown => false
  | .openCeremony _ _ _ _ _ _ _ label => decide (label.length ≤ Config.labelMax)
  | .frameStart | .earlyFrameSync | .slotWordFixed | .slotEnd .. | .assemblyTimeout _
  | .highwayRunning | .suSelection | .ccClaimComplete | .commandComplete _ | .status
  | .challenge _ | .respond .. | .readEvents | .readTamperRecord | .logoff _ | .cancelCeremony
  | .zeroize | .measureNow | .readEntry _ | .readChannel _ | .readMesh | .setEventEnables _
  | .enterComponent .. | .commit _ | .cabinetSecondAdvance | .windowExpiry | .challengeExpiry
  | .batterySampleLatch _ | .conversionComplete _ | .holdConversionStart | .lidSample ..
  | .emzFallingEdge | .emzRisingEdge | .vddBelowCriterion _ | .vddAtCriterion _ | .lowTimerExpiry
  | .vddAboveReturnLevel _ | .vddAtReturnLevel _ | .returnTimerExpiry | .resetLow
  | .resetRelease | .retentionFeedLoss | .coldStart .. | .eraseEntry => true

end Sys2Proof
end

