-- ==== Sys2Proof/Tests/Slice0.lean ====
section
/-! SUPPORT. Tests of the model. Expected values come from the worked examples of spec/ (2.7, 3.8, 4.12,
5.10, 6.9, 7.8, 8.8, 9.7, 10.7, 11.7), from its tables, and from the vectors printed in FIPS 197. The
witnesses at the end show, for each statement with hypotheses, a state and operands that meet them, at
the ends of the ranges that its clauses name. -/

namespace Sys2Proof.Machine.Tests

-- One test after another: each kernel evaluation otherwise holds a thread of its own.
set_option Elab.async false

/-! ## Small states -/

/-- The part in normal operation, nobody present, the monitor UNARMED. -/
def up : State :=
  { State.reset with
    pwr.supply := .normal, pwr.coldPending := false, pins.vdd := 3300
    ci.port := .ready none
    lhi.highway := .running .gap
    tm.schedule := .normal
    tm.conversion := some (Conversion.start .a 2048) }

/-- A custodian who is ENROLLED, under key 0…0n. -/
def person (n : Nat) : Custodian :=
  { state := .enrolled, key := BitVec.ofNat 256 n, check := 0, failures := 0 }

/-- Custodians 1, 2 and 3 are ENROLLED, 1 and 2 present, and the monitor is ARMED with both baselines
at 3052 (8.8). -/
def desk : State :=
  let mesh : MeshRecord :=
    { learned := 3052, baseline := 3052, strikes := 0, lastM := 3052, lastValid := true }
  { up with
    ci.custodians := Vector.ofFn fun c => if c.val < 3 then person (c.val + 1) else Custodian.vacant
    ci.presence := [0, 1]
    ci.window := { remaining := 270, running := true, length := 300 }
    tm.state := .armed, tm.meshA := mesh, tm.meshB := mesh }

/-- One custodian is left. -/
def alone : State := { desk with ci.presence := [0] }

/-- The port holds a command in progress. -/
def busy (c : Command) : State := { desk with ci.port := .executing c }

/-- Generation 3 of entry 17 in the worked example (2.7). -/
def gen3 : Generation := { number := 3, value := 0x1234, check := 0x3F09A2 }

/-- Generation 4 of entry 17. -/
def gen4 : Generation := { number := 4, value := 0x5678, check := 0x7C15E0 }

/-- The data of entry 17 with an allowance and a used count: issuer 1042, channels 2 and 5. -/
def data17 (allowance used : Nat) : EntryMeta :=
  { label := [], issuer := 1042, rights := 0b00100100, allowance := allowance, used := used,
    committedAt := 86400 }

/-- Entry 17 ACTIVE under generation 3. -/
def entry17 (allowance used : Nat) : Entry := .held (data17 allowance used) false gen3 none

/-- Channel 2 OPEN, bound to issuer 1042, with requests waiting. -/
def channel2 (requests : List Request) : Channel :=
  { Channel.cold with
    state := .opened, transport := some gen4, binding := some 1042, requests := requests
    admitted := requests.length }

/-- A DERIVE of k card keys against entry 17, generation 0. -/
def derive17 (tag : Byte) (k : Nat) : Request :=
  { tag := tag
    body := .derive { entry := 17, generation := 0, count := k, issuer := 1042, sequence := 0x01FF,
                      account := 0x1122334455667788 } }

/-- Entry 17 in place, and channel 2 with requests waiting. -/
def line (e : Entry) (requests : List Request) : State :=
  (desk.setEntry 17 e).setChannel 2 (channel2 requests)

/-- The highway in a slot of a map of four slots, slot 0 of channel 2 (5.10). -/
def inSlot (slot bit : Nat) (s : State) : State :=
  { s with
    lhi.highway := .running (.inFrame slot bit)
    lhi.rx := if bit = 31 then none else some { mark := false, data := 0 }
    lhi.active := { length := 4, slots := #v[some 2, some 5, some 5, none, none, none, none, none,
                                            none, none, none, none, none, none, none, none] } }

/-- An erase in progress at a position, as the laws have it. -/
def erasing (i : EntryIndex) : State :=
  { up with
    ec.position := some i, ec.record.causes := 0b000001, ec.record.count := 1
    tm.state := .tripped }

/-- The part in hold after the monitor was armed. -/
def held : State :=
  { desk with
    pwr.supply := .hold, ci.port := .off, lhi.highway := .off, ci.presence := []
    ci.window := { remaining := 0, running := false, length := 300 }
    tm.schedule := .hold, tm.conversion := none }

/-- A conversion of mesh A at N = 2048 whose de-integration has reached a count. -/
def counting (count : Nat) : Option Conversion :=
  some { mesh := .a, runUpCount := 2048, phase := .deIntegrate, count := count }

/-- What a command's next state shows; a stop shows nothing. -/
def on (c : Instr) (s : State) (p : State → Bool) : Bool :=
  match exec c s with
  | .next t => p t
  | .fault _ => false
  | .refused _ => false

/-- The status of the reply frame that a command leaves. -/
def answers (c : Instr) (s : State) (status : ConsoleStatus) : Bool :=
  on c s fun t => t.portRead.map (·.status) == some status

/-- The completion of a command in progress. -/
def done (c : Command) (s : State) (p : State → Bool) : Bool :=
  on (.commandComplete 0) { s with ci.port := .executing c } p

/-! ## Well-formedness -/

theorem test_bad_frame_holding_a_command_is_ill_formed :
    (Instr.badFrame ⟨0x58, [0x01, 0x00]⟩).wellFormed = false := by decide

theorem test_command_taken_without_a_command_is_ill_formed :
    (Instr.commandTaken ⟨0x58, [0x06, 0x00]⟩).wellFormed = false := by decide

theorem test_long_label_is_ill_formed :
    (Instr.openCeremony 1 0 1 2 7 0 17 (List.replicate 17 0x41)).wellFormed = false := by decide

theorem test_well_formed_rows :
    (Instr.badFrame ⟨0x58, [0x06, 0x00]⟩).wellFormed = true ∧
      (Instr.commandTaken ⟨0x58, [0x01, 0x00]⟩).wellFormed = true ∧
      (Instr.openCeremony 1 0 1 2 7 0 16 (List.replicate 16 0x41)).wellFormed = true := by decide

/-! ## Frames (R91, Tables 6-8 and 7-2) -/

theorem test_table_word_spells_nothing : decodeTableWord 8 1 = none := rfl

theorem test_frame_of_a_write_without_bytes : readFrame [] = .emptyWrite := by decide

theorem test_frame_grant :
    readFrame [0x18, 4, 17, 0x00, 0x9C, 0x40] = .command (.grantAllowance 17 40000) := by decide

theorem test_frame_set_mesh :
    readFrame [0x3A, 5, 2, 0x00, 0xC0, 2, 1] = .command (.setMesh 2 192 2 1) := by decide

theorem test_frame_open_ceremony :
    readFrame [0x10, 8, 2, 17, 4, 2, 0x04, 0x12, 0, 0] =
      .command (.openCeremony 2 17 4 2 1042 0 0 []) := by decide

theorem test_frame_length_out_of_table : readFrame [0x18, 3, 17, 0, 1] = .bad := by decide

theorem test_frame_unknown_code : readFrame [0x06, 0] = .unknown := by decide

/-! ## The block cipher (FIPS 197, appendices C.1 and C.3) -/

theorem test_aes128 :
    encrypt128 0x000102030405060708090a0b0c0d0e0f 0x00112233445566778899aabbccddeeff =
      0x69c4e0d86a7b0430d8cdb78070b4c55a := by decide +kernel

theorem test_aes256 :
    encrypt256 0x000102030405060708090a0b0c0d0e0f101112131415161718191a1b1c1d1e1f
      0x00112233445566778899aabbccddeeff = 0x8ea2b7ca516745bfeafc49904b496089 := by decide +kernel

theorem test_aes256_inverse :
    decrypt256 0x000102030405060708090a0b0c0d0e0f101112131415161718191a1b1c1d1e1f
      0x8ea2b7ca516745bfeafc49904b496089 = 0x00112233445566778899aabbccddeeff := by decide +kernel

/-- Table 3-3, byte by byte. -/
theorem test_diversification_block :
    diversification 0x1122334455667788 0x01FF 1 1042 3 17 =
      0x11223344556677880200041203110000 := by decide

/-! ## The line highway -/

theorem test_frame_start :
    on .frameStart up (fun t => t.lhi.highway == .running (.inFrame 0 31)) = true := by
  decide +kernel

/-- 5.6: the assembly of a channel is broken and FRAME_SLIP (bit 6) is raised. -/
theorem test_early_frame_sync :
    on .earlyFrameSync (inSlot 1 20 (desk.setChannel 5 { Channel.cold with
        assembly := some { kind := 1, tag := 0x5A, length := 4, words := [0, 0], frames := 3 } }))
      (fun t => (t.channel 5).assembly.isNone && t.ci.flags.getLsbD 6 &&
        ((t.channel 5).refusal == some { kind := 1, tag := 0x5A, status := .broken,
                                         superseded := false })) = true := by
  decide +kernel

/-- 4.12 step 9: the word of refusal 35h, BAD_LENGTH, superseded (Table 5-6). -/
theorem test_slot_word_of_a_refusal :
    on .slotWordFixed (inSlot 0 31 (desk.setChannel 2 { channel2 [] with
        refusal := some { kind := 1, tag := 0x35, status := .badLength, superseded := true } }))
      (fun t => (t.lhi.tx.map fun x => (x.data, x.mark)) ==
          some (0b01000010011010110000000000000010, true) && (t.channel 2).refusal.isNone) = true := by
  decide +kernel

/-- 5.10 frame 1, slot 1: the header of a DERIVE with tag 5Ah starts an assembly. HRM stands low from
the second bit period on, which is ignored (R69). -/
theorem test_slot_end_header :
    on (.slotEnd 0x48B40000 0x80000000 true) (inSlot 1 31 desk) (fun t =>
        ((t.channel 5).assembly.map fun a => (a.tag, a.length, a.frames)) == some (0x5A, 4, 0) &&
        t.lhi.highway == .running (.inFrame 2 31)) = true := by
  decide +kernel

/-- 5.10 frame 1: the frame completes after slot 3, the count becomes 1 and the pending map applies. -/
theorem test_slot_end_completes_the_frame :
    on (.slotEnd 0 0 false) { inSlot 3 0 (desk.setChannel 5 { Channel.cold with
        assembly := some { kind := 1, tag := 0x5A, length := 4, words := [0, 0], frames := 0 } }) with
        lhi.pendingMap := some { length := 3, slots := Vector.replicate 16 none } }
      (fun t => ((t.channel 5).assembly.map (·.frames)) == some 1 && t.lhi.active.length == 3 &&
        t.lhi.highway == .running .gap && t.lhi.pendingMap.isNone) = true := by
  decide +kernel

/-- 5.10, first note: a frame count of 256 breaks the assembly; a lower setting replaced since the
last completion does not (R78). -/
theorem test_assembly_timeout :
    on (.assemblyTimeout 5) (up.setChannel 5 { Channel.cold with
          assembly := some { kind := 1, tag := 0x5A, length := 4, words := [0, 0], frames := 256 } })
        (fun t => ((t.channel 5).refusal.map (·.status)) == some .broken) = true ∧
      on (.assemblyTimeout 5) { up.setChannel 5 { Channel.cold with
          assembly := some { kind := 1, tag := 0x5A, length := 4, words := [0], frames := 20 } } with
          lhi.timeout := 16 }
        (fun t => (t.channel 5).refusal.isNone && (t.channel 5).assembly.isSome) = true := by
  decide +kernel

theorem test_highway_running :
    on .highwayRunning { up with lhi.highway := .enabling 63 }
      (fun t => t.lhi.highway == .running .gap) = true := by
  decide +kernel

/-- R69: the first bit period samples HRD and HRM, the second HRD alone. -/
theorem test_bit_periods :
    sampleBit { up.pins with hrd := 0xC0000000, hrm := 0x80000000 } 31 none =
        some { mark := true, data := 0x80000000 } ∧
      sampleBit { up.pins with hrd := 0xC0000000 } 30 (some { mark := true, data := 0x80000000 }) =
        some { mark := true, data := 0xC0000000 } := by
  decide +kernel

/-- 4.12 step 5: a count of 3 at a limit of 1 is refused LIMIT. -/
theorem test_admission_limit :
    ({ channel2 [] with limit := 1, admitted := 3 } : Channel).deliver 3 0x34 1 [0xC2680000] =
      { channel2 [] with
        limit := 1, admitted := 3
        refusal := some { kind := 3, tag := 0x34, status := .limit, superseded := false } } := by
  decide +kernel

/-! ## Service -/

/-- 3.8 step 1: 8 − 4 = 4 left, used count 1,004, pointer 2. -/
theorem test_selection_charges :
    on .suSelection (line (entry17 8 1000) [derive17 0x11 4, derive17 0x12 3]) (fun t =>
        (t.entry 17).allowance == 4 && (t.entry 17).used == 1004 && t.su.pointer == 2 &&
        t.su.inService.isSome && t.cc.current.isSome) = true := by
  decide +kernel

/-- 3.8 step 5: 2 < 3 is refused ALLOWANCE_SHORT with no charge. -/
theorem test_selection_allowance_short :
    on .suSelection (line (entry17 2 1006) [derive17 0x12 3]) (fun t =>
        (t.entry 17).allowance == 2 && t.su.inService.isNone &&
        ((t.channel 2).replies.map fun r => (r.tag, r.status)) == [(0x12, .allowanceShort)]) =
      true := by
  decide +kernel

/-- 3.8 step 3: 21 words, and the low byte of s + 3 is 02h. -/
theorem test_claim_delivers_21_words :
    on .ccClaimComplete
      { line (entry17 4 1004) [] with
        su.inService := some
          { channel := 2, tag := 0x11, discard := false
            body := { entry := 17, generation := 0, count := 4, issuer := 1042, sequence := 0x01FF,
                      account := 0x1122334455667788 }
            bound := { master := 0, number := 3, entry := 17, transport := 0 } }
        cc.current := some { done := 0, job := .derive 0 0 [0, 0, 0, 0] } }
      (fun t => ((t.channel 2).replies.map (·.length)) == [21] && (t.channel 2).served == 4 &&
        ((t.channel 2).replies.map fun r => (r.word 20).extractLsb' 0 8) == [0x02]) = true := by
  decide +kernel

/-! ## The custodian port -/

/-- A transaction to another address leaves the port as it stands (R89). -/
theorem test_bad_frame_unknown :
    answers (.badFrame ⟨0x58, [0x06, 0]⟩) up .unknownCommand = true ∧
      answers (.badFrame ⟨0x59, [0x06, 0]⟩) up .done = true := by
  decide +kernel

/-- A command of class two is refused NEED_TWO with one present (7.8, first note). -/
theorem test_command_taken_need_two :
    answers (.commandTaken ⟨0x58, [0x38, 0]⟩) alone .needTwo = true := by
  decide +kernel

theorem test_command_taken_restarts_the_window :
    on (.commandTaken ⟨0x58, [0x38, 0]⟩) desk (fun t => t.ci.window.remaining == 300 &&
      t.portRead.map (·.status) == some .busy) = true := by
  decide +kernel

/-- The first thirteen bytes of STATUS (Table 6-5): ARMED, two present, window 270 of 300. -/
theorem test_status :
    on .status desk (fun t => (t.portRead.map fun f => f.body.take 13) ==
      some [2, 0, 0, 2, 1, 2, 0, 1, 14, 1, 44, 0, 0]) = true := by
  decide +kernel

/-- Six equal bytes in a row fail the draw; five do not (R98). -/
theorem test_challenge :
    answers (.challenge 0x070707070707000102030405060708ff) up .randomFault = true ∧
      answers (.challenge 0x070707070701000102030405060708ff) up .done = true := by
  decide +kernel

/-- 6.9 step 4: a second RESPOND finds no challenge. Taken by a write transaction it completes in a
step of its own, and an erase that starts between ends it ERASING (R93). -/
theorem test_respond_without_challenge :
    answers (.respond 2 0) desk .noChallenge = true ∧
      on (.commandTaken ⟨0x58, [0x03, 17, 2] ++ List.replicate 16 0⟩) desk (fun t =>
        t.portRead.map (·.status) == some .busy &&
          answers (.commandComplete 0) t .noChallenge && answers .emzFallingEdge t .erasing) =
        true := by
  decide +kernel

/-- 6.9 step 3: a mismatch counts one failure. -/
theorem test_respond_mismatch :
    on .ccClaimComplete { desk with
        ci.port := .executing (.respond 3 0)
        cc.current := some { done := 0, job := .respond 3 0x0B } }
      (fun t => (t.custodian 2).failures == 1 && t.ci.presence == [0, 1] &&
        t.portRead.map (·.status) == some .checkMismatch) = true := by
  decide +kernel

/-- Table 6-5: flags, latch pair and count; then everything is clear. -/
theorem test_read_events :
    on .readEvents { desk with
        ci.flags := 0b10000000100, ci.violations := { pair := some (3, 17), count := 2 } }
      (fun t => (t.portRead.map (·.body)) == some [4, 4, 1, 3, 17, 2] && t.ci.flags == 0 &&
        t.ci.violations == { pair := none, count := 0 }) = true := by
  decide +kernel

/-- Table 10-7, completion: MESH_A and EMERGENCY at 300,000, readings 3224 and 2810, count 1. -/
theorem test_read_tamper_record :
    on .readTamperRecord { up with
        ec.record := { causes := 0b001001, firstTrigger := 300000, meshA := 3224, meshB := 2810,
                       count := 1, completed := true, acknowledged := false } }
      (fun t => (t.portRead.map (·.body)) ==
        some [9, 0, 4, 0x93, 0xE0, 0x0C, 0x98, 0x0A, 0xFA, 0, 1, 1]) = true := by
  decide +kernel

/-- 7.8, first note: the drop from two to one discards the ceremony context. -/
theorem test_logoff :
    on (.logoff 2) { desk with cec := some (Ceremony.opened (.rollover 17 1042) 4 2) }
      (fun t => t.ci.presence == [0] && t.cec.isNone && t.ci.window.remaining == 300) = true := by
  decide +kernel

theorem test_cancel_ceremony :
    on .cancelCeremony { desk with cec := some (Ceremony.opened (.rollover 17 1042) 4 2) }
        (fun t => t.cec.isNone) = true ∧
      answers .cancelCeremony desk .state = true := by
  decide +kernel

/-- 10.2: cause CUSTODIAN, count 1, the window stopped, the port DONE. -/
theorem test_zeroize :
    on .zeroize desk (fun t => t.ec.position == some 0 && t.ec.record.causes == 0b100000 &&
      t.ec.record.count == 1 && t.tm.state == .tripped && t.ci.presence.isEmpty &&
      t.portRead.map (·.status) == some .done) = true := by
  decide +kernel

/-- 8.8, second note: the same mesh is started anew and loses its last-valid flag. -/
theorem test_measure_now :
    on .measureNow desk (fun t => t.tm.conversion == some (Conversion.start .a 2048) &&
      !t.tm.meshA.lastValid && t.tm.meshB.lastValid) = true := by
  decide +kernel

/-- 7.8 step 5: the window is not restarted; current number 3, check 3F09A2, previous 0. -/
theorem test_read_entry :
    on (.readEntry 17) (line (entry17 52300 120450) []) (fun t =>
      t.ci.window.remaining == 270 &&
      (t.portRead.map fun f => (f.body.length, f.body.getD 0 0)) == some (40, 1)) = true := by
  decide +kernel

theorem test_read_channel :
    on (.readChannel 2) (line .empty []) (fun t =>
      (t.portRead.map fun f => f.body.length) == some 18) = true ∧
      answers (.readChannel 8) desk .badValue = true := by
  decide +kernel

theorem test_read_mesh :
    on .readMesh desk (fun t => (t.portRead.map fun f => f.body.length) == some 16) = true := by
  decide +kernel

/-- Bit 11 is refused; bit 10 is the highest flag (Table 6-6). -/
theorem test_set_event_enables :
    answers (.setEventEnables 0x0800) desk .badValue = true ∧
      on (.setEventEnables 0x0400) desk (fun t => t.ci.enables == 0x400) = true := by
  decide +kernel

/-- 7.8 step 1. -/
theorem test_open_ceremony :
    on (.openCeremony 2 17 4 2 1042 0 0 []) (line (entry17 52300 120450) [])
        (fun t => t.cec == some (Ceremony.opened (.rollover 17 1042) 4 2)) = true ∧
      answers (.openCeremony 2 17 3 2 1042 0 0 []) (line (entry17 52300 120450) []) .state = true := by
  decide +kernel

/-- Taken by a write transaction, OPEN_CEREMONY is BUSY and completes DONE in a step of its own; a
falling edge on EMZ between the two leaves ERASING and no context (R93, R115). -/
theorem test_open_ceremony_has_a_step_of_its_own :
    on (.commandTaken ⟨0x58, [0x10, 8, 2, 17, 4, 2, 0x04, 0x12, 0, 0]⟩)
      (line (entry17 52300 120450) []) (fun t =>
        t.portRead == some { status := .busy, body := [] } &&
        answers (.commandComplete 0) t .done && answers .emzFallingEdge t .erasing &&
        on .emzFallingEdge t (fun u => u.cec.isNone)) = true := by
  decide +kernel

theorem test_enter_component :
    answers (.enterComponent 1 0 0 0) desk .state = true ∧
      on (.enterComponent 1 0 0 0)
        { desk with cec := some (Ceremony.opened (.rollover 17 1042) 4 2) }
        (fun t => (t.cc.current.map (·.job)) == some (.component 1 0 0)) = true := by
  decide +kernel

theorem test_commit_while_collecting :
    answers (.commit 0) { desk with cec := some (Ceremony.opened (.rollover 17 1042) 4 2) } .state =
      true := by
  decide +kernel

/-- A combined value of zero is BAD_VALUE before the expected value is looked at (Table 7-3). -/
theorem test_commit_of_zero :
    on .ccClaimComplete { desk with
        cec := some { Ceremony.opened (.rollover 17 1042) 4 2 with state := .ready }
        ci.port := .executing (.commit 0), cc.current := some { done := 0, job := .commit 0 } }
      (fun t => t.cec.isNone && t.portRead.map (·.status) == some .badValue) = true := by
  decide +kernel

/-! ## Commands completed by COMMAND_COMPLETE -/

/-- 2.7 steps 3 and 7. -/
theorem test_grant :
    done (.grantAllowance 17 40000) (line (entry17 0 0) [])
        (fun t => (t.entry 17).allowance == 40000) = true ∧
      done (.grantAllowance 17 16777000) (line (entry17 9993 30007) [])
        (fun t => (t.entry 17).allowance == 16777215) = true := by
  decide +kernel

/-- 2.7 steps 14 to 16. -/
theorem test_drop_revoke_retire :
    done (.dropPrevious 17) (line (entry17 5 30010) [])
        (fun t => t.portRead.map (·.status) == some .state) = true ∧
      done (.revokeAllowance 17) (line (entry17 5 30010) [])
        (fun t => t.entry 17 == entry17 0 30010) = true ∧
      done (.retireEntry 17) (line (entry17 0 30010) []) (fun t => t.entry 17 == .empty) = true := by
  decide +kernel

/-- 4.12 step 7: the waiting requests become CHANNEL_CLOSED replies in order. -/
theorem test_channel_close :
    done (.channelClose 2) (line .empty [derive17 0x32 1, { tag := 0x33, body := .probe 17 }])
      (fun t => ((t.channel 2).replies.map fun r => (r.tag, r.status)) ==
        [(0x32, .channelClosed), (0x33, .channelClosed)] && (t.channel 2).admitted == 2) = true := by
  decide +kernel

/-- 8.8: ARM while a conversion runs; SET_MESH with W = 192 clears the strike and keeps 3053. -/
theorem test_arm_and_set_mesh :
    done .arm { desk with tm.state := .unarmed } (fun t => t.tm.state == .learning &&
        (t.tm.learning.map (·.begunBefore)) == some true) = true ∧
      done (.setMesh 2 192 2 1)
        { desk with tm.meshA := { desk.tm.meshA with baseline := 3053, strikes := 1 } }
        (fun t => t.tm.meshA.baseline == 3053 && t.tm.meshA.strikes == 0 &&
          t.tm.window == 192) = true := by
  decide +kernel

/-! ## Time, sensing and supply -/

/-- 6.9 step 8: the window reaches 0 behind a command in progress, and the expiry is pending. -/
theorem test_cabinet_second :
    on .cabinetSecondAdvance { busy .arm with ci.window.remaining := 1, pwr.seconds := 1359 }
      (fun t => t.pwr.seconds == 1360 && t.ci.expiryPending && t.ci.presence == [0, 1]) = true := by
  decide +kernel

/-- The count wraps (R184) and a sample starts at a multiple of 16 (R165). -/
theorem test_cabinet_second_wraps :
    on .cabinetSecondAdvance { up with pwr.seconds := 0xFFFFFFFF }
      (fun t => t.pwr.seconds == 0 && t.ess.sample == some 0) = true := by
  decide +kernel

theorem test_window_expiry :
    on .windowExpiry { desk with ci.window.remaining := 0 }
      (fun t => t.ci.presence.isEmpty && t.ci.flags == 0x004) = true := by
  decide +kernel

/-- 6.9: a challenge drawn at 1350 is valid until 1410. -/
theorem test_challenge_expiry :
    on .challengeExpiry { up with
        ci.challenge := some { value := 1, drawnAt := 1350 }, pwr.seconds := 1410 }
      (fun t => t.ci.challenge.isNone) = true := by
  decide +kernel

/-- 9.7 step 1: 2.52 V is below 2.80 V and not below 2.45 V. -/
theorem test_battery_sample :
    on (.batterySampleLatch 2520) { desk with ess.sample := some 1000 }
      (fun t => t.ess.result == some { belowWarning := true, belowErase := false } &&
        t.ci.flags == 0x080) = true := by
  decide +kernel

/-- Table 8-8, readings 1 and 4. -/
theorem test_conversion_drift_and_trip :
    on (.conversionComplete 1536) desk (fun t => t.tm.meshA.baseline == 3053 &&
        t.tm.meshA.lastM == 3072 && t.tm.state == .armed) = true ∧
      on (.conversionComplete 1612)
        { desk with tm.meshA := { desk.tm.meshA with baseline := 3053, strikes := 1 } }
        (fun t => t.tm.state == .tripped && t.ec.record.causes == 1 &&
          t.ec.record.meshA == 3224 && t.tm.meshA.strikes == 2) = true := by
  decide +kernel

/-- 8.8, further cases: the band limit downward, and truncation toward zero. Then R138: C is not below the
count reached, and 2N once de-integration has counted that far. -/
theorem test_conversion_band_and_truncation :
    on (.conversionComplete 1467)
        { desk with tm.meshA := { desk.tm.meshA with baseline := 2956 } }
        (fun t => t.tm.meshA.lastM == 2934 && t.tm.meshA.baseline == 2956) = true ∧
      on (.conversionComplete 1515)
        { desk with tm.meshA := { desk.tm.meshA with baseline := 3053 } }
        (fun t => t.tm.meshA.lastM == 3030 && t.tm.meshA.baseline == 3052) = true ∧
      on (.conversionComplete 5) { desk with tm.conversion := counting 1536 }
        (fun t => t.tm.meshA.lastM == 3072 && t.tm.state == .armed) = true ∧
      on (.conversionComplete 5) { desk with tm.conversion := counting 4096 }
        (fun t => t.tm.meshA.lastM == 8192 && t.tm.state == .tripped) = true := by
  decide +kernel

/-- 8.8: the sixteenth reading brings L = B = 3052 and 2810, ARMED and ARM_RESULT (bit 8). -/
theorem test_learning_completes :
    on (.conversionComplete 1406) { desk with
        tm.state := .learning
        tm.conversion := some (Conversion.start .b 2048)
        tm.learning := some
          { begunBefore := false
            a := { count := 8, sum := 24420, least := some 3048, greatest := some 3056 }
            b := { count := 7, sum := 19668, least := some 2808, greatest := some 2812 } } }
      (fun t => t.tm.state == .armed && t.tm.meshA.learned == 3052 &&
        t.tm.meshB.baseline == 2810 && t.ci.flags == 0x100) = true := by
  decide +kernel

theorem test_hold_conversion_start :
    on .holdConversionStart held
      (fun t => t.tm.conversion == some (Conversion.start .b 512)) = true := by
  decide +kernel

/-- The eighth disagreeing sample opens the lid and trips the ARMED monitor (R158, R159). -/
theorem test_lid_sample :
    on (.lidSample true false) { desk with ess.lidA.disagree := 7 }
        (fun t => t.ess.lidA.isOpen && t.tm.state == .tripped && t.ec.record.causes == 4) = true ∧
      on (.lidSample true false) { desk with ess.lidA.disagree := 6 }
        (fun t => !t.ess.lidA.isOpen && t.tm.state == .armed) = true := by
  decide +kernel

/-- Table 10-7: EMERGENCY is added to the causes at position 30. -/
theorem test_emz_falling_edge :
    on .emzFallingEdge (erasing 30)
      (fun t => t.ec.record.causes == 0b001001 && t.ec.position == some 30) = true := by
  decide +kernel

theorem test_emz_rising_edge :
    on .emzRisingEdge { up with ess.emzHigh := false } (fun t => t.ess.emzHigh) = true := by
  decide +kernel

/-- 9.7 step 2: at 2.90 V the low timer starts; its expiry enters hold. -/
theorem test_supply_falls :
    on (.vddBelowCriterion ⟨2900, 1⟩) desk (fun t => t.ess.lowTimer == .running 0 && t.pins.adr == 1) = true ∧
      on (.vddAtCriterion ⟨2950, 0⟩) { desk with ess.lowTimer := .running 900 }
        (fun t => t.ess.lowTimer == .stopped) = true ∧
      on .lowTimerExpiry { desk with ess.lowTimer := .running 2000 }
        (fun t => t.pwr.supply == .hold && t.ci.port == .off && t.lhi.highway == .off) = true := by
  decide +kernel

/-- The return level is 0.10 V above the criterion of 2.95 V (R163). -/
theorem test_supply_returns :
    on (.vddAboveReturnLevel ⟨3051, 0⟩) held (fun t => t.ess.returnTimer == .running 0) = true ∧
      on (.vddAtReturnLevel ⟨3050, 0⟩) { held with ess.returnTimer := .running 900 }
        (fun t => t.ess.returnTimer == .stopped) = true := by
  decide +kernel

/-- After a cold start with VDD at 3.3 V the return timer runs from 0, and its expiry begins a restart
that leaves the restart count at 0 (R163, R189). -/
theorem test_cold_start_above_the_return_level :
    on (.coldStart true 0 3300) { up with pwr.batteryLost := true } (fun t =>
        t.ess.returnTimer == .stopped && t.tick.ess.returnTimer == .running 0 &&
        on .returnTimerExpiry t (fun u => u.pwr.supply == .normal && u.pwr.restartCount == 0 &&
          u.ci.flags == 0)) = true ∧
      on (.coldStart true 0 3050) { up with pwr.batteryLost := true } (fun t =>
        t.tick.ess.returnTimer == .stopped &&
        on .returnTimerExpiry t (fun u => u.pwr.supply == .hold)) = true := by
  decide +kernel

/-- The lid sample interval of Table 9-3: 512 crystal periods after a cold start and after hold entry, 32
from a restart; an erase start keeps it. -/
theorem test_lid_interval :
    (State.reset.pwr.supply.lidInterval, desk.holdEntry.pwr.supply.lidInterval,
        held.beginRestart.pwr.supply.lidInterval,
        (held.eraseStart .lid).pwr.supply.lidInterval,
        (desk.eraseStart .lid).pwr.supply.lidInterval) = (512, 512, 32, 512, 32) := by
  decide +kernel

/-- 11.7 step 1: the restart count rises to 7, and entry 17 is claimed first. -/
theorem test_return_timer_restarts :
    on .returnTimerExpiry ({ held with ess.returnTimer := .running 50000, pwr.restartCount := 6 }
        |>.setEntry 17 (.held (data17 0 0) false gen4 (some gen3)))
      (fun t => t.pwr.restartCount == 7 && t.ci.port == .starting &&
        t.pwr.supply == .restarting (.checking (.entry 17)) false) = true := by
  decide +kernel

/-- RESET low begins a restart that rests, at the address 58h + 3 (R89); its rise lets the part run on
(R186). -/
theorem test_reset :
    on .resetLow { up with pins.adr := 3 } (fun t => t.pwr.supply == .restarting .initialised false &&
        t.ci.address == 0x5B) = true ∧
      on .resetRelease { up with
          pwr.supply := .restarting .initialised false, pins.resetLow := true, ci.port := .starting }
        (fun t => t.pwr.supply == .normal && t.ci.port == .ready none &&
          t.ci.flags == 0x400 && t.lhi.highway == .enabling 0) = true := by
  decide +kernel

/-- R167, R178, R189: the loss of the feed takes the contents, and the part does not return but by a cold
start. -/
theorem test_retention_feed_loss_then_cold_start :
    on .retentionFeedLoss (line (entry17 4 1004) []) (fun t => t.pwr.batteryLost &&
        t.entry 17 == .empty && (t.custodian 0).state == .vacant &&
        on .returnTimerExpiry { t with ess.returnTimer := .running 50000 }
          (fun u => u.pwr.supply == .hold)) = true ∧
      on (.coldStart true 2 3300) { desk with pwr.batteryLost := true, pwr.restartCount := 6 }
        (fun t => t.pwr.restartCount == 0 && t.tm.state == .unarmed && t.pwr.supply == .hold &&
          t.pins.adr == 2 && (t.custodian 0).state == .vacant) = true := by
  decide +kernel

/-- 10.7: entry 17 is emptied, the position moves on, and entry 95 completes with ERASE_DONE (bit 1). -/
theorem test_erase_entry :
    on .eraseEntry ((erasing 17).setEntry 17 (entry17 4 1004))
        (fun t => t.entry 17 == .empty && t.ec.position == some 18) = true ∧
      on .eraseEntry (erasing 95) (fun t => t.ec.position.isNone && t.ec.record.completed &&
        t.ci.flags == 0x002) = true := by
  decide +kernel

/-! ## Witnesses of the statements' hypotheses -/

/-- The desk can take commands of class two, and of class one. -/
theorem desk_takes : desk.TakesWith 2 ∧ desk.TakesWith 1 :=
  ⟨⟨⟨none, rfl⟩, rfl, by decide⟩, ⟨none, rfl⟩, rfl, by decide⟩

theorem witness_StepRunsTheFrontCommand :
    ({ up with pending := [.status, .readEvents] } : State).pending = .status :: [.readEvents] ∧
      up.pending = [] := ⟨rfl, rfl⟩

theorem witness_ExecKeepsTheQueue : ∃ t, exec .frameStart up = .next t := ⟨_, rfl⟩

/-- An OPEN channel with a key, and no OPEN channel at all. -/
theorem witness_EveryCommandAnswersNext :
    (line .empty []).ChannelKeyLaw ∧ up.ChannelKeyLaw := by
  unfold State.ChannelKeyLaw; decide +kernel

/-- A loaded part that is ARMED, and an erase at its last entry. -/
theorem witness_KeysStandOnlyWhileArmed :
    ((line (entry17 8 0) []).KeyLaw ∧ ∃ t, step (line (entry17 8 0) []) = .next t) ∧
      (erasing 95).KeyLaw ∧ ∃ t, step { erasing 95 with pending := [.eraseEntry] } = .next t := by
  refine ⟨⟨⟨fun _ h => absurd rfl h, fun h => absurd rfl h, fun h => absurd rfl h,
      fun _ h => (by cases h), fun _ h => (by cases h), fun h => absurd rfl h⟩, _, rfl⟩,
    ⟨fun h => (by cases h), fun _ => rfl, fun _ => by decide +kernel, ?_, fun _ h => (by cases h),
      fun _ _ h => (by cases h)⟩, _, rfl⟩
  intro p h
  cases h
  decide +kernel

theorem witness_OpenChannelsHoldAKey :
    (line .empty []).ChannelKeyLaw ∧
      ∃ t, step { line .empty [] with pending := [.suSelection] } = .next t :=
  ⟨witness_EveryCommandAnswersNext.1, _, rfl⟩

/-- Two requests wait: the count is 2 at a limit of 2. -/
theorem witness_AdmittedCountsTheRequests :
    (line .empty [derive17 1 4, derive17 2 1]).CountLaw ∧
      ∃ t, step (line .empty [derive17 1 4, derive17 2 1]) = .next t :=
  ⟨⟨by decide +kernel, by decide +kernel, by decide +kernel⟩, _, rfl⟩

/-- An entry at the top of both ranges, with a previous generation. -/
theorem witness_EntriesStayInRange :
    (desk.setEntry 17 (.held (data17 16777215 4294967295) false gen4 (some gen3))).EntryLaw ∧
      ∃ t, step (desk.setEntry 17 (.held (data17 16777215 4294967295) false gen4 (some gen3))) =
        .next t := by
  refine ⟨fun i => ?_, _, rfl⟩
  by_cases h : i = 17
  · subst h
    refine ⟨by decide +kernel, by decide +kernel, fun d b g p h => ?_⟩
    cases h
    decide
  · have e : (desk.setEntry 17 (.held (data17 16777215 4294967295) false gen4 (some gen3))).entry i =
        .empty := by
      revert i
      decide +kernel
    rw [e]
    exact ⟨by decide, by decide, fun _ _ _ _ h => (by cases h)⟩

/-- Custodian 3's RESPOND in progress, its claim in the Cipher Core. -/
def joining : State :=
  { busy (.respond 3 0) with cc.current := some { job := .respond 3 1, done := 0 } }

/-- Two present and the port READY; a claim of the console; an OPEN_CEREMONY with its outcome
decided. -/
theorem witness_PresenceStaysLawful :
    (desk.PresenceLaw ∧ ∃ t, step desk = .next t) ∧
      (joining.PresenceLaw ∧ ∃ t, step { joining with pending := [.ccClaimComplete] } = .next t) ∧
      let opening : State :=
        { busy (.openCeremony 2 17 4 2 1042 0 0 []) with ci.decided := some .done }
      opening.PresenceLaw ∧ ∃ t, step { opening with pending := [.commandComplete 0] } = .next t := by
  refine ⟨⟨⟨by decide, by decide, by decide, by decide, fun h => absurd rfl h, fun _ _ _ h => ?_,
      fun _ h => ?_, fun h => absurd rfl h, fun _ _ _ _ _ _ _ _ h => ?_, fun h => absurd rfl h,
      fun h => absurd rfl h⟩, _, rfl⟩,
    ⟨⟨by decide, by decide, by decide, by decide, fun h => absurd rfl h, fun n r c h _ q => ?_,
      fun c h => ?_, fun h => absurd rfl h, fun _ _ _ _ _ _ _ _ h => ?_,
      fun _ => ⟨rfl, rfl, _, rfl, rfl⟩, fun h => absurd rfl h⟩, _, rfl⟩,
    ⟨by decide, by decide, by decide, by decide, fun h => absurd rfl h, fun _ _ _ h => ?_,
      fun c h => ?_, fun _ => ⟨_, rfl, rfl⟩, fun _ _ _ _ _ _ _ _ _ => by decide,
      fun h => absurd rfl h, fun h => absurd rfl h⟩, _, rfl⟩
  · cases h
  · cases h
  · cases h
  · cases h
    cases q
    decide +kernel
  · cases h
    rfl
  · cases h
  · cases h
  · cases h
    rfl

/-- The baseline of mesh A at the top of its band, and a last reading of 8192. -/
theorem witness_BaselinesStayInBand :
    ({ desk with tm.meshA := { desk.tm.meshA with baseline := 3148, lastM := 8192 } } :
        State).BandLaw ∧
      ∃ t, step { desk with tm.meshA := { desk.tm.meshA with baseline := 3148, lastM := 8192 } } =
        .next t := by
  refine ⟨⟨⟨fun _ => by decide, by decide⟩, ⟨fun _ => by decide, by decide⟩⟩, _, rfl⟩

/-- A slot of a frame, the last one and its first bit among them. -/
theorem inSlot_lawful (slot bit : Nat) (h : slot < 4) (b : bit ≤ 31) :
    (inSlot slot bit desk).HighwayLaw := by
  have at_ {s b'} (e : (inSlot slot bit desk).lhi.highway = .running (.inFrame s b')) :
      slot = s ∧ bit = b' := by
    have e' : Highway.running (.inFrame slot bit) = .running (.inFrame s b') := e
    injection e' with e'
    injection e' with e1 e2
    exact ⟨e1, e2⟩
  refine ⟨fun s b' e => ?_, fun tx e => (by cases e), ⟨fun r => ⟨slot, bit, rfl, ?_⟩, ?_⟩, ?_,
    ⟨(by decide : 2 ≤ 4), (by decide : 4 ≤ 16)⟩, fun m e => (by cases e), fun n e => (by cases e),
    ⟨(by decide : 16 ≤ 256), (by decide : 256 ≤ 1024)⟩, fun e => absurd rfl e⟩
  · obtain ⟨rfl, rfl⟩ := at_ e
    exact ⟨h, b⟩
  · have : bit ≠ 31 := fun q => r (by simp [inSlot, q])
    omega
  · rintro ⟨s, b', e, lt⟩
    obtain ⟨rfl, rfl⟩ := at_ e
    simp [inSlot, show bit ≠ 31 by omega]
  · intro s b' r _ q n _
    unfold inSlot at q
    dsimp only at q
    split at q
    · cases q
    · cases q
      simp

theorem witness_HighwayStaysInFrame :
    (inSlot 3 31 desk).HighwayLaw ∧ (inSlot 0 0 desk).HighwayLaw ∧
      ∃ t, step { inSlot 0 0 desk with pending := [.slotEnd 0 0 true] } = .next t :=
  ⟨inSlot_lawful 3 31 (by decide) (by decide), inSlot_lawful 0 0 (by decide) (by decide), _, rfl⟩

theorem witness_UsedCountNeverFalls :
    (desk.setEntry 17 (.held (data17 16777215 4294967295) false gen4 (some gen3))).EntryLaw ∧
      ∃ t, exec .suSelection
        (desk.setEntry 17 (.held (data17 16777215 4294967295) false gen4 (some gen3))) = .next t :=
  ⟨witness_EntriesStayInRange.1, _, rfl⟩

/-- After an erase that has completed, with ACK_TRIP in progress. -/
def acknowledging : State :=
  { up with ci.port := .executing .ackTrip, tm.state := .tripped, ec.record.completed := true }

/-- A trip, its acknowledgment with no erase in progress, and learning that ends UNARMED by a command,
by a lid, by hold entry and by a restart. -/
theorem witness_MonitorMovesAsTable83 :
    let learning : State := { desk with tm.state := .learning }
    (∃ t, exec .zeroize desk = .next t ∧ t.tm.state = .tripped) ∧
      (acknowledging.KeyLaw ∧ ∃ t, exec (.commandComplete 0) acknowledging = .next t ∧
        t.tm.state = .unarmed ∧ t.ec.record.acknowledged = true) ∧
      (∃ t, exec .measureNow learning = .next t ∧ t.tm.state = .unarmed ∧
        t.ci.flags.getLsbD 8 = true) ∧
      (∃ t, exec (.lidSample true false) { learning with ess.lidA.disagree := 7 } = .next t ∧
        t.tm.state = .unarmed ∧ t.ess.lidA.isOpen = true) ∧
      (∃ t, exec .lowTimerExpiry { learning with ess.lowTimer := .running 2000 } = .next t ∧
        t.tm.state = .unarmed ∧ t.pwr.supply = .hold) ∧
      (∃ t, exec .resetLow learning = .next t ∧ t.tm.state = .unarmed ∧ t.pwr.supply ≠ .hold) ∧
      ∃ t, exec .retentionFeedLoss desk = .next t ∧ t.tm.state = .unarmed :=
  ⟨⟨_, rfl, rfl⟩, ⟨⟨fun _ _ => ⟨by decide +kernel, by decide +kernel⟩, fun h => absurd rfl h,
      fun h => absurd rfl h, fun _ h => (by cases h), fun _ h => (by cases h), fun h => absurd rfl h⟩,
      _, rfl, rfl, rfl⟩,
    ⟨_, rfl, rfl, rfl⟩, ⟨_, rfl, rfl, rfl⟩, ⟨_, rfl, rfl, rfl⟩,
    ⟨_, rfl, rfl, by decide +kernel⟩, _, rfl, rfl⟩

theorem witness_ErasePassStandsFirm :
    (erasing 95).KeyLaw ∧ (erasing 95).ec.position = some 95 ∧
      ∃ t, exec .emzFallingEdge (erasing 95) = .next t :=
  ⟨witness_KeysStandOnlyWhileArmed.2.1, rfl, _, rfl⟩

/-- A window that is stopped, one at 2, and one at 1 with and without a command in progress. -/
theorem witness_CabinetSecondsAdvance :
    up.ci.window.running = false ∧
      (({ desk with ci.window.remaining := 2 } : State).ci.window.running = true ∧
        1 < ({ desk with ci.window.remaining := 2 } : State).ci.window.remaining) ∧
      (({ busy .arm with ci.window.remaining := 1 } : State).ci.window.remaining = 1 ∧
        (busy .arm).ci.window.running = true ∧ ∃ c, (busy .arm).ci.port = .executing c) ∧
      (¬∃ c, ({ desk with ci.window.remaining := 1 } : State).ci.port = .executing c) ∧
      ∃ t, exec .cabinetSecondAdvance up = .next t :=
  ⟨rfl, ⟨rfl, by decide⟩, ⟨rfl, rfl, .arm, rfl⟩, fun ⟨_, h⟩ => (by cases h), _, rfl⟩

theorem witness_ReadsHideTheKeyValues :
    ∃ t u, exec .readMesh desk = .next t ∧ exec .readMesh desk.withoutSecrets = .next u :=
  ⟨_, _, rfl, rfl⟩

theorem witness_RowIsTakenThenCompleted :
    readFrame [0x0E, 0] = .command .readMesh ∧ Command.readMesh.row? 0 = some .readMesh ∧
      desk.ci.port = .ready none ∧ ∃ u, exec (.commandTaken ⟨desk.ci.address, [0x0E, 0]⟩) desk = .next u :=
  ⟨by decide, rfl, rfl, _, rfl⟩

/-- An assembly of channel 5 with a number of words and frames. -/
def assembling (words : List Word) (frames : Nat) : Channel :=
  { Channel.cold with
    assembly := some { kind := 1, tag := 0x5A, length := 4, words := words, frames := frames } }

theorem witness_FramePositionFollowsHfs :
    up.lhi.highway = .running .gap ∧ State.reset.lhi.highway = .off ∧
      ({ up with lhi.highway := .enabling 0 } : State).lhi.highway = .enabling 0 ∧
      (up.channel 5).assembly = none ∧
      (∃ a, ((up.setChannel 5 (assembling [0] 255)).channel 5).assembly = some a ∧
        a.frames < up.lhi.compared) ∧
      ∃ a, ((up.setChannel 5 (assembling [0] 256)).channel 5).assembly = some a ∧
        up.lhi.compared ≤ a.frames :=
  ⟨rfl, rfl, rfl, rfl, ⟨_, rfl, by decide⟩, _, rfl, by decide⟩

theorem witness_EarlySyncBreaksTheFrame :
    (inSlot 0 31 desk).lhi.highway = .running (.inFrame 0 31) ∧
      (inSlot 3 0 desk).lhi.highway = .running (.inFrame 3 0) := ⟨rfl, rfl⟩

/-- A reply of two words, its header sent or not. -/
def replying (sent : Option Nat) (refusal : Option Refused) : Channel :=
  { channel2 [] with
    replies := [{ kind := 3, tag := 9, status := .ok, body := [1] }], sent := sent
    refusal := refusal, admitted := 1 }

/-- A refusal BROKEN. -/
def broken9 : Refused := { kind := 1, tag := 9, status := .broken, superseded := false }

/-- A fill word of channel 2 in progress. -/
def filling : TxWord := { channel := 2, data := 0, mark := false, source := .fill }

/-- The first bit period of an unassigned slot ends, and the second and the last but one of an assigned
one; and each case of the choice. -/
theorem witness_SlotWordIsFixed :
    (∀ slot bit, slot < 4 → bit ≤ 31 → (inSlot slot bit desk).HighwayLaw) ∧
      ((inSlot 3 31 desk).pending = [] ∧ (inSlot 3 31 desk).lhi.active.channel 3 = none ∧
        (inSlot 0 30 desk).lhi.highway = .running (.inFrame 0 (29 + 1)) ∧
        (inSlot 0 30 desk).lhi.rx ≠ none ∧
        (inSlot 0 1 desk).lhi.highway = .running (.inFrame 0 (0 + 1))) ∧
    ((inSlot 3 31 desk).lhi.active.channel 3 = none ∧
      (inSlot 3 31 desk).lhi.highway = .running (.inFrame 3 31)) ∧
      ((inSlot 0 31 desk).lhi.tx = none ∧ (inSlot 0 31 desk).lhi.active.channel 0 = some 2) ∧
      ((replying (some 0) none).sent = some 0 ∧ (replying (some 1) none).sent = some 1 ∧
        (replying none none).replies ≠ []) ∧
      ((replying none (some broken9)).sent = none ∧
        (replying none (some broken9)).refusal = some broken9) ∧
      ((replying none none).sent = none ∧ (replying none none).refusal = none) ∧
      ((channel2 []).replies = [] ∧ (channel2 []).refusal = none) ∧
      let sending : State := { inSlot 0 0 desk with lhi.tx := some filling }
      sending.HighwayLaw ∧ sending.lhi.highway = .running (.inFrame 0 0) ∧
        sending.lhi.tx = some filling ∧ State.reset.lhi.highway = .off := by
  have h := inSlot_lawful 0 0 (by decide) (by decide)
  exact ⟨inSlot_lawful, by decide +kernel, by decide +kernel, by decide +kernel, by decide +kernel,
    by decide +kernel, by decide +kernel, by decide +kernel,
    ⟨h.position, fun tx e => (by cases e; exact ⟨0, 0, rfl, rfl⟩), h.received, h.sampled, h.active,
      h.waiting, h.enabling, h.timeout, h.off⟩, rfl, rfl, rfl⟩

/-- The word of a slot that SLOT_END ends at its first bit period, and at its last. -/
theorem receives_all (slot : Nat) (s : State) (hrd hrm : Word) :
    (inSlot slot 31 s).Receives 31 hrd hrm (hrm.getLsbD 31) hrd ∧
      (inSlot slot 0 s).Receives 0 hrd hrm false (if hrd.getLsbD 0 then 1 else 0) := by
  refine ⟨⟨rfl, fun n h => ?_⟩, rfl, fun n h => ?_⟩
  · rw [if_pos (by omega)]
  · by_cases z : n = 0
    · subst z
      rw [if_pos (Nat.le_refl 0)]
      cases hrd.getLsbD 0 <;> rfl
    · rw [if_neg fun le => z (Nat.le_zero.mp le)]
      cases hrd.getLsbD 0 <;> simp [inSlot, z]

/-- The first and the last slot but one of a frame, assigned and not. -/
theorem witness_SlotEndServesItsChannel :
    ((∀ hrd hrm : Word, (inSlot 0 31 desk).Receives 31 hrd hrm (hrm.getLsbD 31) hrd) ∧
        (inSlot 2 0 desk).Receives 0 0 0 false 0) ∧
    (replying (some 1) none).replies ≠ [] ∧
      ((inSlot 0 31 desk).HighwayLaw ∧ (inSlot 2 0 desk).HighwayLaw) ∧
      0 + 1 < (inSlot 0 31 desk).lhi.active.length ∧ 2 + 1 < (inSlot 2 0 desk).lhi.active.length ∧
      (inSlot 2 0 desk).lhi.active.channel 2 = some 5 ∧
      (up.lhi.active.channel 14 = none ∧ 14 + 1 < up.lhi.active.length) :=
  ⟨⟨fun _ _ => (receives_all 0 desk _ _).1, (receives_all 2 desk 0 0).2⟩, by decide,
    ⟨inSlot_lawful 0 31 (by decide) (by decide), inSlot_lawful 2 0 (by decide) (by decide)⟩,
    by decide, by decide, rfl, rfl, by decide⟩

theorem witness_LastSlotCompletesTheFrame :
    (inSlot 3 0 desk).HighwayLaw ∧ (inSlot 3 0 desk).Receives 0 0 0 false 0 ∧
      (inSlot 3 0 desk).lhi.highway = .running (.inFrame 3 0) ∧
      (inSlot 3 0 desk).lhi.active.length ≤ 3 + 1 :=
  ⟨inSlot_lawful 3 0 (by decide) (by decide), (receives_all 3 desk 0 0).2, rfl, by decide⟩

/-- Length fields 0, 1, 2, 24 and 25 of a header word. -/
theorem witness_HeaderWordStartsAnAssembly :
    ((0x40000000 : Word).extractLsb' 25 5).toNat = 0 ∧
      ((0x42000000 : Word).extractLsb' 25 5).toNat = 1 ∧
      ((0x44000000 : Word).extractLsb' 25 5).toNat = 2 ∧
      ((0x70000000 : Word).extractLsb' 25 5).toNat = 24 ∧
      ((0x72000000 : Word).extractLsb' 25 5).toNat = 25 := by
  decide

theorem witness_BodyWordContinuesTheAssembly :
    Channel.cold.assembly = none ∧
      (∃ a, (assembling [1, 2] 0).assembly = some a ∧ a.words.length + 1 < a.length) ∧
      ∃ a, (assembling [1, 2, 3] 0).assembly = some a ∧ a.length ≤ a.words.length + 1 :=
  ⟨rfl, ⟨_, rfl, by decide⟩, _, rfl, by decide⟩

/-- Entry indices 95 and 96, sequence numbers whose last one is 65535 and 65536, and a count at and
below the limit. -/
theorem witness_AdmissionChecksInOrder :
    Channel.cold.state = .closed ∧
      ({ channel2 [] with state := .halted } : Channel).state = .halted ∧
      (channel2 []).state = .opened ∧
      ((0x5F000000 : Word).extractLsb' 24 8).toNat = 95 ∧
      95 < ((0x60000000 : Word).extractLsb' 24 8).toNat ∧
      ((0x49017D01 : Word).extractLsb' 10 7).toNat = 95 ∧
      ((0x49017D01 : Word).extractLsb' 8 2).toNat + 1 = 2 ∧
      ((0x0412FFFE : Word).extractLsb' 0 16).toNat + 2 - 1 ≤ 65535 ∧
      65535 < ((0x0412FFFF : Word).extractLsb' 0 16).toNat + 2 - 1 ∧
      (channel2 [derive17 1 1]).admitted < (channel2 [derive17 1 1]).limit ∧
      (channel2 [derive17 1 1, derive17 2 1]).limit ≤
        (channel2 [derive17 1 1, derive17 2 1]).admitted := by
  decide

/-- Channel 2 is the only one that waits. -/
theorem next_served (e : Entry) (r : Request) (s : State) (h : s = line e [r]) :
    s.NextServed 2 := by
  subst h
  refine ⟨rfl, ⟨rfl, fun h => (by cases h)⟩, fun d hd => ?_⟩
  by_cases hc : d = 2
  · subst hc
    exact Nat.le_refl _
  · refine absurd ?_ hd.2
    have : ∀ d : ChannelNo, d ≠ 2 → ((line e [r]).channel d).requests = [] := by
      intro d
      match d with
      | 0 | 1 | 3 | 4 | 5 | 6 | 7 => exact fun _ => rfl
      | 2 => exact fun h => absurd rfl h
    exact this d hc

/-- A LINK_STATUS, and a PROBE of an entry that the channel may use. -/
theorem witness_SelectionAnswersAtOnce :
    (line .empty [{ tag := 1, body := .linkStatus }]).NextServed 2 ∧
      (line (entry17 8 0) [{ tag := 1, body := .probe 17 }]).NextServed 2 ∧
      (data17 8 0).rights.getLsbD 2 = true ∧ (channel2 []).binding = some (data17 8 0).issuer ∧
      (line (entry17 8 0) [{ tag := 1, body := .probe 17 }]).entry 17 =
        .held (data17 8 0) false gen3 none :=
  ⟨next_served _ _ _ rfl, next_served _ _ _ rfl, by decide, rfl, by decide +kernel⟩

/-- The failing side of each check: rights, issuer, no key, suspended, generation and allowance. -/
theorem witness_SelectionRefusesByTheFirstCheck :
    (line .empty [derive17 1 4]).NextServed 2 ∧ (line (entry17 3 0) [derive17 1 4]).NextServed 2 ∧
      ((line .empty [derive17 1 4]).entry 17).rights.getLsbD 2 = false ∧
      ((line (entry17 3 0) [derive17 1 4]).entry 17).rights.getLsbD 2 = true ∧
      ({ data17 3 0 with issuer := 1043 } : EntryMeta).issuer ≠ 1042 ∧
      (Entry.faulted (data17 3 0) 3 0).isHeld = false ∧
      ((2 : Byte) ≠ 0 ∧ (2 : Byte) ≠ gen3.number) ∧ (data17 3 0).allowance < 4 :=
  ⟨next_served _ _ _ rfl, next_served _ _ _ rfl, by decide +kernel, by decide +kernel, by decide,
    rfl, by decide, by decide⟩

/-- An allowance of exactly k, current and previous generation. -/
theorem witness_SelectionBindsTheDerive :
    (line (entry17 4 0) [derive17 1 4]).NextServed 2 ∧
      (line (entry17 4 0) [derive17 1 4]).entry 17 = .held (data17 4 0) false gen3 none ∧
      (data17 4 0).rights.getLsbD 2 = true ∧ 4 ≤ (data17 4 0).allowance ∧
      (channel2 []).transport = some gen4 ∧
      ((3 : Byte) ≠ 0 ∧ (3 : Byte) ≠ gen4.number ∧ gen3.number = 3) :=
  ⟨next_served _ _ _ rfl, by decide +kernel, by decide, by decide, rfl, by decide⟩

/-- The request that the next witness has in service. -/
def served1 (discard : Bool) : InService :=
  { channel := 2, tag := 1, discard := discard
    body := { entry := 17, generation := 0, count := 1, issuer := 1042, sequence := 5, account := 7 }
    bound := { master := 1, number := 3, entry := 17, transport := 2 } }

theorem witness_DeriveClaimIsDelivered :
    ∀ discard, ∃ (s : State) (claim : Claim), s.cc.current = some claim ∧
      s.su.inService = some (served1 discard) ∧
      claim.job = .derive 1 2 ((List.range 1).map fun i =>
        (7 : BitVec 64) ++ ((5 : BitVec 16) + BitVec.ofNat 16 i) ++ (1042 : BitVec 16) ++ (3 : Byte) ++
          BitVec.ofNat 8 17 ++ 0#16) := fun discard =>
  ⟨{ line .empty [] with
      su.inService := some (served1 discard)
      cc.current := some { done := 0, job := .derive 1 2 [0x00000000000000070005041203110000] } },
    _, rfl, rfl, by rfl⟩

/-- Custodian 8, the last one; a response that matches and one that does not. -/
theorem witness_RespondClaimDecides :
    (∀ response, ∃ s : State, ∃ claim, s.cc.current = some claim ∧
      claim.job = .respond 1 7 ∧ s.ci.port = .executing (.respond 8 response)) ∧
      (8 : Byte).toNat = (7 : CustodianNo).val + 1 ∧
      encrypt256 1 7 = encrypt256 1 7 ∧ encrypt256 1 7 ≠ encrypt256 1 7 + 1 :=
  ⟨fun response => ⟨{ desk with
      ci.port := .executing (.respond 8 response)
      cc.current := some { done := 0, job := .respond 1 7 } }, _, rfl, rfl, rfl⟩,
    by decide, rfl, by decide +kernel⟩

theorem witness_ComponentClaimDecides :
    (∀ claimed, ∃ s : State, ∃ claim x, s.cc.current = some claim ∧
      claim.job = .component 1 2 3 ∧ s.ci.port = .executing (.enterComponent 1 2 3 claimed) ∧
      s.cec = some x ∧ x.required ≤ x.contributors.length + 2) ∧
      (1 : Byte).toNat = (0 : CustodianNo).val + 1 :=
  ⟨fun claimed => ⟨{ desk with
      ci.port := .executing (.enterComponent 1 2 3 claimed)
      cc.current := some { done := 0, job := .component 1 2 3 }
      cec := some (Ceremony.opened (.rollover 17 1042) 4 2) }, _, _, rfl, rfl, rfl, rfl, by decide⟩,
    by decide⟩

/-- A READY ceremony of a combined value, for a kind and target. -/
def committing (target : CeremonyTarget) (value : Key) (expected : CheckValue) (s : State) : State :=
  { s with
    ci.port := .executing (.commit expected)
    cc.current := some { done := 0, job := .commit value }
    cec := some { Ceremony.opened target 4 2 with combined := value, state := .ready } }

/-- All three kinds; a combined value of zero and one that is not; a target that fits and one that does
not; the check value met and not. -/
theorem witness_CommitClaimDecides :
    (∀ target value expected s, ∃ claim x, (committing target value expected s).cc.current = some claim ∧
      claim.job = .commit x.combined ∧
      (committing target value expected s).ci.port = .executing (.commit expected) ∧
      (committing target value expected s).cec = some x ∧ x.target = target) ∧
      ((1 : Key) ≠ 0 ∧ (encrypt256 1 0).extractLsb' 104 24 ≠ gen3.check) ∧
      desk.tm.state = .armed ∧ up.tm.state ≠ .armed ∧
      ((desk.entry 17).isHeld = false ∧ ((line (entry17 1 0) []).entry 17).isHeld = true) ∧
      ((data17 1 0).issuer = 1042 ∧ gen3.number < (4 : Byte) ∧ ¬gen4.number < (4 : Byte)) ∧
      ((desk.channel 2).transport = none ∧ (channel2 []).transport = some gen4) :=
  ⟨fun _ _ _ _ => ⟨_, _, rfl, rfl, rfl, rfl, rfl⟩, by decide +kernel, rfl, by decide,
    by decide +kernel, by decide, by decide +kernel⟩

/-- A visit of an entry with one left behind it, an entry and a channel; the last entry and the last
channel. -/
theorem witness_SelfCheckClaimDecides :
    let loaded := line (entry17 1 0) []
    (loaded.entry 17 = .held (data17 1 0) false gen3 none ∧
      (∀ j : EntryIndex, (CheckPosition.entry 16).place < j.val → j < 17 →
        (loaded.entry j).isHeld = false) ∧
      (∀ i : EntryIndex, (CheckPosition.entry 17).place < i.val → (loaded.entry i).isHeld = false) ∧
      (CheckPosition.entry 17).place < 96 + (2 : ChannelNo).val ∧
      (loaded.channel 2).transport = some gen4 ∧
      ∀ d : ChannelNo, d < 2 → (loaded.channel d).transport = none) ∧
    (∀ cold, ∃ s : State, ∃ claim, s.cc.current = some claim ∧
      s.pwr.supply = .restarting (.checking (.entry 95)) cold ∧
      s.entry 95 = .held (data17 0 0) false gen4 (some gen3) ∧
      claim.job = .checkEntry gen4.value (some gen3.value)) ∧
      ∀ cold, ∃ s : State, ∃ claim, s.cc.current = some claim ∧
        s.pwr.supply = .restarting (.checking (.channel 7)) cold ∧
        (s.channel 7).transport = some gen4 ∧ claim.job = .checkTransport gen4.value :=
  ⟨by decide +kernel,
    fun cold => ⟨{ desk.setEntry 95 (.held (data17 0 0) false gen4 (some gen3)) with
      pwr.supply := .restarting (.checking (.entry 95)) cold
      cc.current := some { done := 0, job := .checkEntry gen4.value (some gen3.value) } },
      _, rfl, rfl, by rfl, rfl⟩,
    fun cold => ⟨{ desk.setChannel 7 (channel2 []) with
      pwr.supply := .restarting (.checking (.channel 7)) cold
      cc.current := some { done := 0, job := .checkTransport gen4.value } },
      _, rfl, rfl, by rfl, rfl⟩⟩

/-- A claim of each side, and each pattern of waiting claims. -/
theorem witness_ArbiterPrefersTheCustodians :
    let busy : CipherCore := CipherCore.idle.present (.commit 1)
    let one := busy.present (.derive 1 2 [])
    (one.waiting = [.service] ∧
      (one.present (.respond 1 2)).waiting = [.service, .held (.respond 1 2)] ∧
      (busy.present (.respond 1 2)).waiting = [.held (.respond 1 2)]) ∧
    CipherCore.idle.current = none ∧
      (CipherCore.idle.present (.commit 1)).current = some { job := .commit 1, done := 0 } ∧
      CipherCore.idle.waiting = [] ∧
      (Job.derive 1 2 []).claimant = .su ∧ (Job.respond 1 2).claimant = .ci ∧
      (Job.commit 1).claimant = .cec ∧
      (((CipherCore.idle.present (.derive 1 2 [])).present (.respond 1 2)).release.arbitrate
        none).current = some { job := .respond 1 2, done := 0 } := by
  decide

theorem witness_ReplyFrameIsPlaced :
    (0x59 : BitVec 7) ≠ up.ci.address ∧ up.ci.expiryPending = false ∧
      ({ up with ci.expiryPending := true } : State).ci.expiryPending = true ∧
      State.reset.ci.port = .off ∧ (busy .arm).ci.port = .executing .arm ∧
      ({ up with ci.port := .starting } : State).ci.port = .starting ∧ up.ci.port = .ready none ∧
      ((0x400 : BitVec 11).getLsbD 10 = true ∧ (0x001 : BitVec 11).getLsbD 0 = true) :=
  ⟨by decide, rfl, rfl, rfl, rfl, rfl, rfl, by decide⟩

/-- Lengths 120 and 121, a code of the table and one outside it, and a port that takes nothing. -/
theorem witness_FramesAreReadAsTable68 :
    up.ci.port = .ready none ∧ 120 < (121 : Byte).toNat ∧ (120 : Byte).toNat ≤ 120 ∧
      (∀ row ∈ frameTable, row.1 ≠ (0x06 : Byte).toNat) ∧
      ((0x1B : Byte).toNat, 1, 120) ∈ frameTable ∧ ((0x18 : Byte).toNat, 4, 4) ∈ frameTable ∧
      (((0x18 : Byte).toNat, Command.grantAllowance 17 0x010203) ∈ spelling [17, 1, 2, 3] ∧
        ((0x1B : Byte).toNat, Command.setLabel 0 []) ∈ spelling [0] ∧
        1 ≤ (List.replicate 120 (0x41 : Byte)).length) ∧
      (∀ reply, State.reset.ci.port ≠ .ready reply) ∧
        ({ address := 0x5A, bytes := [] } : WriteTransaction).address ≠ up.ci.address :=
  ⟨rfl, by decide, by decide, by decide, by decide, by decide, by decide, fun _ h => (by cases h),
    by decide⟩

/-- Nobody, one and two custodians present; an erase; a fresh part. -/
theorem witness_TakeChecksEraseThenPresence :
    (readFrame [0x38, 0] = .command .arm ∧ readFrame [0x01, 0] = .command .status ∧
      readFrame [0x0E, 0] = .command .readMesh) ∧
      ((erasing 0).ec.position ≠ none ∧ (erasing 0).ci.port = .ready none) ∧
      (desk.ec.position = none ∧ desk.ci.port = .ready none ∧ desk.ci.presence.length = 2) ∧
      (alone.ci.presence.length = 1 ∧ ((0x38 : Byte).toNat, PresenceClass.two) ∈ classTable) ∧
      (up.ci.presence = [] ∧ ((0x0E : Byte).toNat, PresenceClass.one) ∈ classTable) ∧
      ((0x01 : Byte).toNat, PresenceClass.none) ∈ classTable ∧
      (up.ci.custodians.toList.filter fun r => decide (r.state = .enrolled)).length < 2 ∧
      ¬(desk.ci.custodians.toList.filter fun r => decide (r.state = .enrolled)).length < 2 := by
  decide +kernel

/-- Entry indices 0, 95 and 96, and channel numbers 0, 7 and 8. -/
theorem witness_ReadsAnswerWithTheirBodies :
    desk.TakesWith 1 ∧ (0 : Byte).toNat = (0 : EntryIndex).val ∧
      (95 : Byte).toNat = (95 : EntryIndex).val ∧ 95 < (96 : Byte).toNat ∧
      (7 : Byte).toNat = (7 : ChannelNo).val ∧ 7 < (8 : Byte).toNat :=
  ⟨desk_takes.2, by decide, by decide, by decide, by decide, by decide⟩

/-- Six equal bytes at the first and at the last place, five only, and a repeated draw. -/
theorem witness_ChallengeIsDrawn :
    (up.ci.port = .ready none ∧ up.ec.position = none) ∧
      (∀ j, j < 6 → (0x07070707070700010203040506070809 : Block).extractLsb' (8 * (15 - (0 + j))) 8 =
        (7 : Byte)) ∧
      (∀ j, j < 6 → (0x00010203040506070809090909090909 : Block).extractLsb' (8 * (15 - (10 + j))) 8 =
        (9 : Byte)) ∧
      ¬(∃ i, i ≤ 10 ∧ ∀ j, j < 6 →
        (0x07070707070102030405060708090A0B : Block).extractLsb' (8 * (15 - (i + j))) 8 =
          (0x07070707070102030405060708090A0B : Block).extractLsb' (8 * (15 - i)) 8) := by
  refine ⟨⟨rfl, rfl⟩, by decide, by decide, ?_⟩
  rintro ⟨i, hi, h⟩
  have : ∀ i : Fin 11, ¬∀ j : Fin 6,
      (0x07070707070102030405060708090A0B : Block).extractLsb' (8 * (15 - (i.val + j.val))) 8 =
        (0x07070707070102030405060708090A0B : Block).extractLsb' (8 * (15 - i.val)) 8 := by
    decide +kernel
  exact this ⟨i, by omega⟩ fun j => h j j.isLt

/-- A part with a challenge outstanding and nobody, or three, present; numbers 0, 1, 8 and 9; the
frames of the three commands, and one in progress with its claim made and with it refused. -/
theorem witness_ClaimCommandsCheckFirst :
    ((busy (.commit 0)).ci.port = .executing (.commit 0) ∧ (busy (.commit 0)).ci.decided = none ∧
        ({ busy (.commit 0) with ci.decided := some .state } : State).ci.decided = some .state) ∧
      (readFrame ([0x03, 17, 2] ++ List.replicate 16 0) = .command (.respond 2 0) ∧
        readFrame ([0x11, 36, 2] ++ List.replicate 35 0) = .command (.enterComponent 2 0 0 0) ∧
        readFrame [0x12, 3, 0, 0, 0] = .command (.commit 0)) ∧
    (desk.ci.port = .ready none ∧ desk.ec.position = none ∧ desk.ci.challenge = none) ∧
      ({ desk with ci.challenge := some { value := 1, drawnAt := 0 } } : State).ci.challenge =
        some { value := 1, drawnAt := 0 } ∧
      ((0 : Byte).toNat = 0 ∧ 8 < (9 : Byte).toNat ∧ (8 : Byte).toNat = (7 : CustodianNo).val + 1) ∧
      ((desk.custodian 7).state = .vacant ∧ (desk.custodian 2).state = .enrolled ∧
        2 ∉ desk.ci.presence ∧ desk.ci.presence.length < 3 ∧ 0 ∈ desk.ci.presence ∧
        ({ desk with ci.presence := [0, 1, 2] } : State).ci.presence.length = 3) ∧
      ((desk.setCustodian 3 { person 4 with state := .locked }).custodian 3).state = .locked ∧
      desk.TakesWith 2 ∧ desk.cec = none ∧
      (Ceremony.opened (.rollover 17 1042) 4 2).state = .collecting ∧
      0 ∉ (Ceremony.opened (.rollover 17 1042) 4 2).contributors :=
  ⟨⟨rfl, rfl, rfl⟩, by decide +kernel, ⟨rfl, rfl, rfl⟩, rfl, by decide, by decide +kernel,
    by decide +kernel, desk_takes.1, rfl, rfl, by decide⟩

/-- Custodian numbers 0, 9 and 1; one and two present; bits 11 and 10 of the enables. -/
theorem witness_ClassOneCommandsTakeEffect :
    desk.TakesWith 1 ∧ alone.TakesWith 1 ∧ alone.ci.presence = [0] ∧
      (0 ∈ desk.ci.presence ∧ 2 ≤ desk.ci.presence.length ∧ 7 ∉ desk.ci.presence) ∧
      ((0x0800 : BitVec 16).extractLsb' 11 5 ≠ 0 ∧ (0x0400 : BitVec 16).extractLsb' 11 5 = 0) ∧
      ((9 : Byte).toNat = 9 ∧ (1 : Byte).toNat = (0 : CustodianNo).val + 1) ∧ desk.cec = none ∧
      ({ desk with cec := some (Ceremony.opened (.rollover 17 1042) 4 2) } : State).TakesWith 1 :=
  ⟨desk_takes.2, ⟨⟨none, rfl⟩, rfl, by decide⟩, rfl, by decide, by decide, by decide, rfl,
    ⟨none, rfl⟩, rfl, by decide⟩

theorem witness_MeasureNowRestartsTheConversion :
    ((erasing 0).ci.port = .ready none ∧ (erasing 0).ec.position ≠ none) ∧
      (up.ci.port = .ready none ∧ up.ec.position = none ∧ up.ci.presence = []) ∧
      desk.TakesWith 1 ∧ desk.tm.conversion = some (Conversion.start .a 2048) ∧
      desk.tm.state ≠ .learning ∧
      ({ desk with tm.state := .learning } : State).TakesWith 1 :=
  ⟨by decide +kernel, by decide +kernel, desk_takes.2, rfl, by decide, ⟨none, rfl⟩, rfl, by decide⟩

/-- Targets 95, 96, 7 and 8, characters 20h, 7Eh and 7Fh, and each of the three kinds. -/
theorem witness_OpenCeremonyChecksInOrder :
    (readFrame [0x10, 8, 2, 17, 4, 2, 0x04, 0x12, 0, 0] =
          .command (.openCeremony 2 17 4 2 1042 0 0 []) ∧
        let opening : State :=
          { busy (.openCeremony 2 17 4 2 1042 0 0 []) with
            ci.decided := some .done, ess.emzHigh := true }
        opening.ci.decided = some .done ∧ opening.ess.emzHigh = true ∧ opening.ec.position = none) ∧
      desk.TakesWith 2 ∧ (List.replicate 16 (0x7E : Byte)).length ≤ 16 ∧
      (95 < (96 : Byte).toNat ∧ ¬95 < (95 : Byte).toNat ∧ 7 < (8 : Byte).toNat) ∧
      (0x7E < (0x7F : Byte).toNat ∧ ¬0x7E < (0x7E : Byte).toNat ∧ ¬(0x20 : Byte).toNat < 0x20) ∧
      desk.cec = none ∧ desk.tm.state = .armed ∧ up.tm.state ≠ .armed ∧
      ((desk.entry 95).isHeld = false ∧ ((line (entry17 1 0) []).entry 17).isHeld = true) ∧
      (gen3.number < (4 : Byte) ∧ ¬gen3.number < (3 : Byte)) ∧
      ((desk.channel 7).transport = none ∧ (channel2 []).transport = some gen4 ∧
        (4 : Byte) ≤ gen4.number ∧ gen4.number < (5 : Byte)) :=
  ⟨⟨by decide +kernel, rfl, rfl, rfl⟩, desk_takes.1, by decide, by decide, by decide, rfl, rfl,
    by decide, by decide +kernel, by decide, by decide +kernel⟩

theorem witness_ZeroizeAndEdgesStartAnErase :
    desk.TakesWith 1 ∧ (desk.ess.emzHigh = true ∧ desk.ec.position = none) ∧
      ((busy .arm).ess.emzHigh = true ∧ (busy .arm).ci.port = .executing .arm ∧
        Command.arm ≠ .zeroize) ∧
      (∀ c, desk.ci.port ≠ .executing c) ∧
      ((erasing 95).ess.emzHigh = true ∧ (erasing 95).ec.position ≠ none) ∧
      ({ up with ess.emzHigh := false } : State).ess.emzHigh = false :=
  ⟨desk_takes.2, ⟨rfl, rfl⟩, ⟨rfl, rfl, by decide⟩, fun _ h => (by cases h), ⟨rfl, by decide⟩, rfl⟩

/-- A command in progress stands at the port; indices 0, 95 and 96. -/
theorem witness_EntryStateCommandsComplete :
    (∀ c, (busy c).ci.port = .executing c) ∧ 95 < (96 : Byte).toNat ∧
      (95 : Byte).toNat = (95 : EntryIndex).val ∧ (desk.entry 95) = .empty ∧
      (line (entry17 1 0) []).entry 17 = .held (data17 1 0) false gen3 none ∧
      (desk.setEntry 95 (.held (data17 1 0) true gen4 (some gen3))).entry 95 =
        .held (data17 1 0) true gen4 (some gen3) ∧
      (desk.setEntry 0 (.faulted (data17 1 0) 3 0)).entry 0 = .faulted (data17 1 0) 3 0 :=
  ⟨fun _ => rfl, by decide, by decide, by decide +kernel, by decide +kernel, by decide +kernel,
    by decide +kernel⟩

/-- Amounts 0 and 16,777,215; labels of 16 and 17 characters, and one with 7Fh. -/
theorem witness_PolicyCommandsComplete :
    (∀ c, (busy c).ci.port = .executing c) ∧ (16777215 : BitVec 24) ≠ 0 ∧
      ¬16 < (List.replicate 16 (0x20 : Byte)).length ∧ 16 < (List.replicate 17 (0x20 : Byte)).length ∧
      (∃ c ∈ [(0x7F : Byte)], c.toNat < 0x20 ∨ 0x7E < c.toNat) ∧
      ((line (entry17 1 0) []).entry 17).data? = some (data17 1 0) ∧ desk.entry 95 = .empty :=
  ⟨fun _ => rfl, by decide, by decide, by decide, ⟨0x7F, by decide, by decide⟩, by decide +kernel,
    by decide +kernel⟩

/-- Channels 7 and 8; limits 0, 1, 4 and 5; bindings 0, 65534 and 65535. -/
theorem witness_ChannelCommandsComplete :
    (∀ c, (busy c).ci.port = .executing c) ∧ 7 < (8 : Byte).toNat ∧
      (7 : Byte).toNat = (7 : ChannelNo).val ∧
      ((channel2 []).state = .opened ∧ (desk.channel 7).state = .closed ∧
        (desk.channel 7).transport = none ∧
        ({ channel2 [] with state := .halted } : Channel).state ≠ .opened) ∧
      ((65534 : BitVec 16) ≠ 65535 ∧ (1 : Byte) ≠ 0 ∧ (4 : Byte).toNat ≤ 4 ∧
        4 < (5 : Byte).toNat) :=
  ⟨fun _ => rfl, by decide, by decide, by decide +kernel, by decide⟩

/-- Both ends of each range: S, slot bytes, frames, the window, the codes and the mesh settings. -/
theorem witness_SettingCommandsComplete :
    (∀ c, (busy c).ci.port = .executing c) ∧
      ((1 : Byte).toNat < 2 ∧ 2 ≤ (2 : Byte).toNat ∧ (16 : Byte).toNat ≤ 16 ∧
        16 < (17 : Byte).toNat) ∧
      ((7 : Byte).toNat ≤ 7 ∧ ¬((8 : Byte).toNat ≤ 7 ∨ (8 : Byte) = 0xFF) ∧
        (List.replicate 16 (0xFF : Byte)).length = 16) ∧
      ((15 : BitVec 16).toNat < 16 ∧ 16 ≤ (16 : BitVec 16).toNat ∧
        (1024 : BitVec 16).toNat ≤ 1024 ∧ 1024 < (1025 : BitVec 16).toNat) ∧
      ((29 : BitVec 16).toNat < 30 ∧ 30 ≤ (30 : BitVec 16).toNat ∧ (900 : BitVec 16).toNat ≤ 900 ∧
        900 < (901 : BitVec 16).toNat) ∧
      ((3 : Byte).toNat = (3 : Fin 4).val ∧ 3 < (4 : Byte).toNat) ∧
      (desk.tm.state = .armed ∧ up.tm.state = .unarmed ∧
        ({ desk with tm.state := .learning } : State).tm.state = .learning) :=
  ⟨fun _ => rfl, by decide, by decide, by decide, by decide, by decide, rfl, rfl, rfl⟩

theorem witness_MonitorCommandsComplete :
    (∀ c, (busy c).ci.port = .executing c) ∧
      (({ busy .arm with tm.state := .unarmed } : State).tm.state = .unarmed ∧
        desk.ess.lidA.isOpen = false ∧ desk.ess.lidB.isOpen = false ∧
        ({ desk with ess.lidB.isOpen := true } : State).ess.lidB.isOpen = true) ∧
      ((∀ i, desk.entry i = .empty) ∧ ∀ c, (desk.channel c).transport = none) ∧
      ¬((∀ i, (line .empty []).entry i = .empty) ∧
        ∀ c, ((line .empty []).channel c).transport = none) ∧
      ((erasing 0).tm.state = .tripped ∧ desk.tm.state ≠ .tripped) :=
  ⟨fun _ => rfl, ⟨rfl, rfl, rfl, rfl⟩, by decide +kernel, by decide +kernel, rfl, by decide⟩

/-- Numbers 0, 9 and 8; vacant, enrolled and locked records; a present custodian. -/
theorem witness_CustodianCommandsComplete :
    (∀ c, (busy c).ci.port = .executing c) ∧
      ((0 : Byte).toNat = 0 ∧ 8 < (9 : Byte).toNat ∧ (8 : Byte).toNat = (7 : CustodianNo).val + 1) ∧
      ((desk.custodian 7).state = .vacant ∧ (desk.custodian 2).state ≠ .vacant ∧
        2 ∉ desk.ci.presence ∧ 0 ∈ desk.ci.presence) ∧
      ((desk.setCustodian 3 { person 4 with state := .locked }).custodian 3).state = .locked :=
  ⟨fun _ => rfl, by decide, by decide +kernel, by decide +kernel⟩

theorem witness_ExpiriesTakeEffect :
    (({ busy .arm with ci.window.remaining := 0 } : State).ci.window.remaining = 0 ∧
      (busy .arm).ci.window.running = true ∧ ∃ c, (busy .arm).ci.port = .executing c) ∧
      (¬∃ c, desk.ci.port = .executing c) ∧
      (({ up with ci.challenge := some { value := 1, drawnAt := 0xFFFFFFFF } } : State).ci.challenge =
        some { value := 1, drawnAt := 0xFFFFFFFF } ∧
        (59 : Seconds) = 0xFFFFFFFF + 60 ∧ (58 : Seconds) ≠ 0xFFFFFFFF + 60) :=
  ⟨⟨rfl, rfl, .arm, rfl⟩, fun ⟨_, h⟩ => (by cases h), rfl, by decide, by decide⟩

/-- 2449 and 2450 mV, in normal power and in hold, with and without keys. -/
theorem witness_BatteryResultIsJudged :
    ({ desk with ess.sample := some 1000 } : State).ess.sample = some 1000 ∧
      desk.pwr.supply ≠ .hold ∧ held.pwr.supply = .hold ∧
      (decide (2449 < 2450) = true ∧ decide (2450 < 2450) = false) ∧ held.noKeys ∧
      ¬(held.setEntry 17 (entry17 1 0)).noKeys ∧
      (held.ec.position = none ∧
        ({ held with ec.position := some 95 } : State).ec.position ≠ none) := by
  refine ⟨rfl, by decide, rfl, by decide, ?_, ?_, rfl, by decide⟩
  · unfold State.noKeys
    decide +kernel
  · unfold State.noKeys
    decide +kernel

/-- The reading at each boundary under N = 2048: open at C = 4096, short below M = 64, a distance of 96
and one above it. -/
theorem witness_ReadingsAreEvaluated :
    (held.tm.schedule = .hold ∧ held.tm.conversion = none) ∧
      desk.tm.conversion = some (Conversion.start .a 2048) ∧
      (4096 * 4096 / 2048 = 8192 ∧ 31 * 4096 / 2048 < 64 ∧ 64 ≤ 32 * 4096 / 2048) ∧
      (1574 * 4096 / 2048 - 3052 ≤ desk.tm.window ∧ desk.tm.window < 1575 * 4096 / 2048 - 3052) ∧
      (desk.tm.state = .armed ∧ desk.ec.position = none ∧ up.tm.state = .unarmed ∧
        (erasing 0).tm.state = .tripped) ∧
      (0 + 1 < desk.tm.strikeLimit ∧ desk.tm.strikeLimit ≤ 1 + 1) ∧
      (counting 31 = some { Conversion.start .a 2048 with phase := .deIntegrate, count := 31 } ∧
        5 ≤ 31 ∧ ¬32 ≤ 31 ∧ 4096 ≤ 2 * 2048) := by
  decide +kernel

/-- The record of a mesh in learning. -/
def tally (count : Nat) : Tally :=
  { count := count, sum := 3052 * count, least := some 3052, greatest := some 3052 }

/-- A monitor that learns, with the mesh in progress and the two counts. -/
def learns (begun : Bool) (a b : Nat) : State :=
  { desk with
    tm.state := .learning, tm.learning := some { begunBefore := begun, a := tally a, b := tally b } }

/-- The sixth and the eighth reading of a mesh, and a spread of 96 and above it. -/
theorem witness_LearningTakesItsReadings :
    ((learns true 0 0).tm.state = .learning ∧
      (learns true 0 0).tm.learning = some { begunBefore := true, a := tally 0, b := tally 0 } ∧
      (learns true 0 0).tm.conversion = some (Conversion.start .a 2048)) ∧
      ((tally 6).count + 1 < 8 ∧ 8 ≤ (tally 7).count + 1) ∧
      (3148 ≤ 3052 + desk.tm.window ∧ 3052 + desk.tm.window < 3150) ∧ desk.tm.window = 96 := by
  decide +kernel

theorem witness_LidSamplesAreDebounced :
    (desk.ess.lidA.isOpen = false ∧ desk.ess.lidA.disagree + 1 < 8) ∧
      (({ desk with ess.lidA.disagree := 7 } : State).tm.state = .armed ∧
        ¬(({ desk with ess.lidA.disagree := 7 } : State).ess.lidA.disagree + 1 < 8) ∧
        desk.ec.position = none) ∧
      ({ learns false 0 0 with ess.lidA.disagree := 7 } : State).tm.state = .learning ∧
      up.tm.state = .unarmed ∧ (erasing 0).tm.state = .tripped ∧
      (held.pwr.supply = .hold ∧ held.ess.lidA.disagree + 1 < 2) := by
  decide +kernel

/-- 2949, 2950, 3050 and 3051 mV under a criterion of 2.95 V. -/
theorem witness_TimersFollowTheMainSupply :
    (desk.pwr.supply ≠ .hold ∧ 2949 < 3000 - 50 * desk.ess.criterion.val ∧
      3000 - 50 * desk.ess.criterion.val ≤ 2950) ∧
      (held.pwr.supply = .hold ∧ 3000 - 50 * held.ess.criterion.val + 100 < 3051 ∧
        3050 ≤ 3000 - 50 * held.ess.criterion.val + 100) := by
  decide +kernel

theorem witness_RequestsChangeTheSupplyState :
    (({ desk with ess.lowTimer := .running 2000 } : State).ess.lowTimer = .running 2000 ∧
      desk.pwr.supply ≠ .hold ∧ desk.ec.position = none ∧ (erasing 0).ec.position ≠ none ∧
      (∀ x, desk.ess.result = some x → x.belowErase = false ∨ desk.noKeys) ∧
      desk.tm.conversion = some (Conversion.start .a 2048)) ∧
      ((∃ x, ({ desk with ess.result := some { belowWarning := true, belowErase := true } } :
          State).ess.result = some x ∧ x.belowErase = true) ∧
        ¬(desk.setEntry 17 (entry17 1 0)).noKeys) ∧
      (({ held with ess.returnTimer := .running 50000 } : State).ess.returnTimer = .running 50000 ∧
        (held.ess.returnTimer = .stopped ∧
          3100 - 50 * held.ess.criterion.val < ({ held with pins.vdd := 3051 } : State).pins.vdd) ∧
        held.pwr.supply = .hold ∧ held.pins.resetLow = false ∧ held.pwr.batteryLost = false ∧
        ({ held with pwr.batteryLost := true } : State).pwr.batteryLost = true ∧
        ({ held with pins.resetLow := true } : State).pins.resetLow = true) := by
  refine ⟨⟨rfl, by decide, rfl, by decide, fun _ h => (by cases h), rfl⟩, ⟨⟨_, rfl, rfl⟩, ?_⟩, rfl,
    ⟨rfl, by decide⟩, rfl, rfl, rfl, rfl, rfl⟩
  unfold State.noKeys
  decide +kernel

theorem witness_ResetReleaseGoesOn :
    (∀ cold, up.pwr.supply ≠ .restarting .initialised cold) ∧
      (∀ cold, ∃ s : State, s.pwr.supply = .restarting .initialised cold ∧ s.ec.position = none ∧
        s.noKeys) ∧
      ∀ cold, ∃ s : State, s.pwr.supply = .restarting .initialised cold ∧ s.ec.position = none ∧
        s.entry 95 = .held (data17 0 0) false gen4 (some gen3) ∧
        (∀ j, j < 95 → (s.entry j).isHeld = false) ∧
        ((∀ i, ((line .empty []).entry i).isHeld = false) ∧
          ((line .empty []).channel 2).transport = some gen4 ∧
          ∀ d : ChannelNo, d < 2 → ((line .empty []).channel d).transport = none) := by
  refine ⟨fun _ h => (by cases h), fun cold => ⟨{ up with
      pwr.supply := .restarting .initialised cold }, rfl, rfl, ?_⟩,
    fun cold => ⟨{ desk.setEntry 95 (.held (data17 0 0) false gen4 (some gen3)) with
      pwr.supply := .restarting .initialised cold }, rfl, rfl, by rfl, ?_,
      by decide +kernel⟩⟩
  · exact ⟨fun i => (by revert i; decide +kernel : (up.entry i).isHeld = false),
      fun c => (by revert c; decide +kernel : (up.channel c).transport = none)⟩
  · intro j h
    have : ∀ j : EntryIndex, j < 95 →
        ((desk.setEntry 95 (.held (data17 0 0) false gen4 (some gen3))).entry j).isHeld = false := by
      decide +kernel
    exact this j h

/-- Entries 94 and 95, with nothing held and with each request held, RESET high and low, and a restart
under way. -/
theorem witness_ColdStartAndTheErasePass :
    let with' (held : HeldRequest) (resetHeld : Bool) : State :=
      { erasing 95 with pwr.held := held, pwr.resetHeld := resetHeld }
    let restarting (stage : RestartStage) : State :=
      { erasing 95 with
        pwr.supply := .restarting stage false, ci.port := .starting, lhi.highway := .off }
    ((with' .restart false).KeyLaw ∧ (with' .none true).KeyLaw ∧
        (with' .none true).pwr.resetHeld = true ∧ (with' .none true).pins.resetLow = false ∧
        ({ with' .none true with pins.resetLow := true } : State).pins.resetLow = true) ∧
      ((restarting .initialised).KeyLaw ∧
        (restarting .initialised).pwr.supply = .restarting .initialised false ∧
        (restarting .checked).pwr.supply = .restarting .checked false) ∧
    (({ desk with pwr.batteryLost := true } : State).pwr.batteryLost = true ∧
      desk.pwr.batteryLost = false) ∧
      ((erasing 94).ec.position = some 94 ∧ (95 : EntryIndex).val = (94 : EntryIndex).val + 1) ∧
      ((erasing 95).ec.position = some 95 ∧ (erasing 95).pwr.held = .none ∧
        (erasing 95).pwr.resetHeld = false ∧ (erasing 95).pwr.supply = .normal) ∧
      (({ erasing 95 with pwr.held := .hold } : State).pwr.held = .hold ∧
        ({ erasing 95 with pwr.held := .hold } : State).KeyLaw) := by
  have k := witness_KeysStandOnlyWhileArmed.2.1
  have law (held resetHeld) :
      ({ erasing 95 with pwr.held := held, pwr.resetHeld := resetHeld } : State).KeyLaw :=
    ⟨k.armedOnly, k.tripped, k.noTransport, k.passed, k.waiting, k.servedOnly⟩
  refine ⟨⟨law _ _, law _ _, rfl, rfl, rfl⟩, ⟨⟨k.armedOnly, k.tripped, k.noTransport, k.passed,
    k.waiting, fun _ _ h => (by cases h)⟩, rfl, rfl⟩, by decide +kernel, by decide +kernel,
    by decide +kernel, rfl, law _ _⟩

end Sys2Proof.Machine.Tests
end

/-! The commands of R127 on one entry of the Key Table, from the step that completes them: what
COMMAND_COMPLETE does with a served command, what serving a command on an entry gives, and the four
commands by the state of the entry. -/

namespace Sys2Proof.Machine

/-! ## Indices (R1) -/

theorem entryIndex?_eq_none {n : Nat} (h : 95 < n) : entryIndex? n = none :=
  dif_neg (by omega)

theorem entryIndex?_eq_some {n : Nat} {i : EntryIndex} (h : n = i.val) : entryIndex? n = some i := by
  subst h
  exact dif_pos i.isLt

/-! ## Completion of a served command (R93, R124) -/

section Completion

variable {s : State} {draw : Block} {c : Command} {b : Byte} {i : EntryIndex} {e : Entry}
  {f : Entry → Option Entry}

theorem commandComplete_of_serve {r : Served} (port : s.ci.port = .executing c)
    (serves : s.serve c draw = some r) :
    exec (.commandComplete draw) s = .next (r.state.finish r.status r.body) := by
  simp only [exec, execCommandComplete, State.completeCommand, port, serves]

theorem State.onEntry_above (high : 95 < b.toNat) : s.onEntry b f = unserved .badValue s := by
  simp only [State.onEntry, entryIndex?_eq_none high]

theorem State.onEntry_of_none (index : b.toNat = i.val) (noEffect : f (s.entry i) = none) :
    s.onEntry b f = unserved .state s := by
  simp only [State.onEntry, entryIndex?_eq_some index, noEffect]

theorem State.onEntry_of_some (index : b.toNat = i.val) (effect : f (s.entry i) = some e) :
    s.onEntry b f = served (s.setEntry i e) := by
  simp only [State.onEntry, entryIndex?_eq_some index, effect]

theorem commandComplete_onEntry_above (port : s.ci.port = .executing c)
    (serves : s.serve c draw = some (s.onEntry b f)) (high : 95 < b.toNat) :
    exec (.commandComplete draw) s = .next (s.finish .badValue []) := by
  rw [commandComplete_of_serve port serves, State.onEntry_above high]
  rfl

theorem commandComplete_onEntry_none (port : s.ci.port = .executing c)
    (serves : s.serve c draw = some (s.onEntry b f)) (index : b.toNat = i.val)
    (noEffect : f (s.entry i) = none) :
    exec (.commandComplete draw) s = .next (s.finish .state []) := by
  rw [commandComplete_of_serve port serves, State.onEntry_of_none index noEffect]
  rfl

theorem commandComplete_onEntry_some (port : s.ci.port = .executing c)
    (serves : s.serve c draw = some (s.onEntry b f)) (index : b.toNat = i.val)
    (effect : f (s.entry i) = some e) :
    exec (.commandComplete draw) s = .next ((s.setEntry i e).finish .done []) := by
  rw [commandComplete_of_serve port serves, State.onEntry_of_some index effect]
  rfl

end Completion

/-! ## The four commands (R9, R10, R11, R127) -/

/-- With no previous generation held, only 0 and the current number select (R6). -/
theorem Entry.select_held_none {d : EntryMeta} {suspended : Bool} {current : Generation} {n : Byte}
    (nonzero : n ≠ 0) (other : n ≠ current.number) :
    (Entry.held d suspended current none).select n = none :=
  if_neg (not_or.mpr ⟨nonzero, other⟩)

/-- Settles O46: one case for each command and each state of the entry it names, with the entry's
operation evaluated there. -/
theorem entryStateCommandsComplete : Obligations.EntryStateCommandsComplete := by
  intro s draw b command four port
  refine ⟨fun high => ?_, fun i index => ?_⟩
  · rcases four with rfl | rfl | rfl | rfl <;> exact commandComplete_onEntry_above port rfl high
  have unchanged {f} (serves : s.serve command draw = some (s.onEntry b f)) :=
    commandComplete_onEntry_none (i := i) port serves index
  have changed {f e} (serves : s.serve command draw = some (s.onEntry b f)) :=
    commandComplete_onEntry_some (i := i) (e := e) port serves index
  rcases four with rfl | rfl | rfl | rfl
  · cases h : s.entry i with
    | empty => exact unchanged rfl (congrArg Entry.suspend h)
    | faulted => exact (if_neg nofun).mpr (unchanged rfl (congrArg Entry.suspend h))
    | held d suspended current previous =>
      refine ⟨fun _ => ?_, nofun, nofun, nofun⟩
      cases suspended with
      | false => exact changed rfl (congrArg Entry.suspend h)
      | true => exact unchanged rfl (congrArg Entry.suspend h)
  · cases h : s.entry i with
    | empty => exact unchanged rfl (congrArg Entry.resume h)
    | faulted => exact (if_neg nofun).mpr (unchanged rfl (congrArg Entry.resume h))
    | held d suspended current previous =>
      refine ⟨nofun, fun _ => ?_, nofun, nofun⟩
      cases suspended with
      | false => exact unchanged rfl (congrArg Entry.resume h)
      | true => exact changed rfl (congrArg Entry.resume h)
  · cases h : s.entry i with
    | empty => exact unchanged rfl (congrArg Entry.dropPrevious h)
    | faulted => exact (if_neg nofun).mpr (unchanged rfl (congrArg Entry.dropPrevious h))
    | held d suspended current previous =>
      refine ⟨nofun, nofun, fun _ => ?_, nofun⟩
      cases previous with
      | none => exact unchanged rfl (congrArg Entry.dropPrevious h)
      | some g =>
        exact ⟨changed rfl (congrArg Entry.dropPrevious h), Entry.select_held_none⟩
  · cases h : s.entry i with
    | empty => exact unchanged rfl (congrArg Entry.retire h)
    | faulted => exact (if_pos rfl).mpr (changed rfl (congrArg Entry.retire h))
    | held => exact ⟨nofun, nofun, nofun, fun _ => changed rfl (congrArg Entry.retire h)⟩

end Sys2Proof.Machine

/-! The words of R75 and R76 on the assembly of one channel: what a header does by its length field,
and what a word with mark 0 does by the assembly it meets. -/

namespace Sys2Proof.Machine

section Words

variable {ch : Channel} {a : Assembly} {w : Word}

/-! ## The assembly discarded (R75, R78, R79) -/

theorem Channel.breakAssembly_of_none (idle : ch.assembly = none) : ch.breakAssembly = ch := by
  simp only [Channel.breakAssembly, idle]

theorem Channel.breakAssembly_of_some (standing : ch.assembly = some a) :
    ch.breakAssembly = { ch.refuse a.kind a.tag .broken with assembly := none } := by
  simp only [Channel.breakAssembly, standing]

/-! ## A header by its length field (R75) -/

theorem Channel.receive_header_of_badLength
    (bad : headerLength w = 0 ∨ 24 < headerLength w) :
    ch.receive true w = ch.breakAssembly.refuse (headerKind w) (headerTag w) .badLength :=
  if_pos bad

theorem Channel.receive_header_of_one (one : headerLength w = 1) :
    ch.receive true w = ch.breakAssembly.deliver (headerKind w) (headerTag w) 1 [w] :=
  have inRange : ¬(headerLength w = 0 ∨ 24 < headerLength w) := by omega
  (if_neg inRange).trans (if_pos one)

theorem Channel.receive_header_of_longer (longer : 2 ≤ headerLength w)
    (fits : headerLength w ≤ 24) :
    ch.receive true w =
      { ch.breakAssembly with
        assembly := some { kind := headerKind w, tag := headerTag w, length := headerLength w,
                           words := [w], frames := 0 } } :=
  have inRange : ¬(headerLength w = 0 ∨ 24 < headerLength w) := by omega
  have notOne : headerLength w ≠ 1 := by omega
  (if_neg inRange).trans (if_neg notOne)

/-! ## A word with mark 0 by the assembly it meets (R76) -/

theorem Channel.receive_body_of_none (idle : ch.assembly = none) : ch.receive false w = ch := by
  simp only [Channel.receive, Channel.takeBody, idle, Bool.false_eq_true, if_false]

theorem Channel.receive_body_of_some (standing : ch.assembly = some a) :
    ch.receive false w =
      if a.length ≤ a.words.length + 1 then
        { ch with assembly := none }.deliver a.kind a.tag a.length (a.words ++ [w])
      else { ch with assembly := some { a with words := a.words ++ [w], frames := 0 } } := by
  simp only [Channel.receive, Channel.takeBody, standing, Bool.false_eq_true, if_false,
    List.length_append, List.length_singleton]

end Words

/-! ## The two rules -/

/-- Settles O24: the standing assembly is discarded first, whatever the header, and one case of the
length field decides what follows. -/
theorem headerWordStartsAnAssembly : Obligations.HeaderWordStartsAnAssembly := by
  intro ch w kind n tag freed
  have broken : ch.breakAssembly = freed := by
    cases h : ch.assembly with
    | none => simp only [freed, h, Channel.breakAssembly_of_none h]
    | some a => simp only [freed, h, Channel.breakAssembly_of_some h, Channel.refuse]
  rw [← broken]
  exact ⟨Channel.receive_header_of_badLength, Channel.receive_header_of_one,
    Channel.receive_header_of_longer⟩

/-- Settles O25: no assembly, or a standing one by whether the word reaches its length. -/
theorem bodyWordContinuesTheAssembly : Obligations.BodyWordContinuesTheAssembly := by
  intro ch w
  refine ⟨Channel.receive_body_of_none, fun a standing => ⟨fun short => ?_, fun reached => ?_⟩⟩
  · rw [Channel.receive_body_of_some standing, if_neg (by omega)]
  · rw [Channel.receive_body_of_some standing, if_pos reached]

end Sys2Proof.Machine

/-! The commands of R95 to R97 on one custodian record: what serving each of them gives once its number
names a record, in the order of its checks, and the step that completes it. -/

namespace Sys2Proof.Machine

/-! ## Custodian numbers (R94) -/

theorem custodianNo?_eq_none {n : Byte} (outside : n.toNat = 0 ∨ 8 < n.toNat) :
    custodianNo? n = none :=
  dif_neg (by omega)

theorem custodianNo?_eq_some {n : Byte} {c : CustodianNo} (number : n.toNat = c.val + 1) :
    custodianNo? n = some c := by
  have inRange : 1 ≤ n.toNat ∧ n.toNat ≤ 8 := by omega
  have place : n.toNat - 1 = c.val := by omega
  exact (dif_pos inRange).trans (congrArg some (Fin.ext place))

/-! ## What serving a command on a custodian record gives (R95, R96, R97) -/

section Serving

variable {s : State} {n : Byte} {c : CustodianNo} {key : Key} {check : CheckValue}

theorem State.serveEnrol_outside (outside : n.toNat = 0 ∨ 8 < n.toNat) :
    s.serveEnrol n key check = unserved .badValue s := by
  simp only [State.serveEnrol, custodianNo?_eq_none outside]

theorem State.serveRemove_outside (outside : n.toNat = 0 ∨ 8 < n.toNat) :
    s.serveRemove n = unserved .badValue s := by
  simp only [State.serveRemove, custodianNo?_eq_none outside]

theorem State.serveUnlock_outside (outside : n.toNat = 0 ∨ 8 < n.toNat) :
    s.serveUnlock n = unserved .badValue s := by
  simp only [State.serveUnlock, custodianNo?_eq_none outside]

theorem State.serveEnrol_of_number (number : n.toNat = c.val + 1) :
    s.serveEnrol n key check =
      if key = 0 then unserved .badValue s
      else if (s.custodian c).state = .vacant then
        served (s.setCustodian c { state := .enrolled, key := key, check := check, failures := 0 })
      else unserved .state s := by
  simp only [State.serveEnrol, custodianNo?_eq_some number]
  cases (s.custodian c).state <;> simp

theorem State.serveRemove_of_number (number : n.toNat = c.val + 1) :
    s.serveRemove n =
      if (s.custodian c).state = .vacant ∨ c ∈ s.ci.presence then unserved .state s
      else served (s.setCustodian c Custodian.vacant) := by
  simp only [State.serveRemove, custodianNo?_eq_some number]
  cases (s.custodian c).state <;> simp

theorem State.serveUnlock_of_number (number : n.toNat = c.val + 1) :
    s.serveUnlock n =
      if (s.custodian c).state = .locked then
        served (s.setCustodian c { s.custodian c with state := .enrolled, failures := 0 })
      else unserved .state s := by
  simp only [State.serveUnlock, custodianNo?_eq_some number]
  cases (s.custodian c).state <;> simp

end Serving

/-! ## The three commands -/

/-- Settles O51: the number is checked first; a command on a record it names then takes the branch of
its own checks. -/
theorem custodianCommandsComplete : Obligations.CustodianCommandsComplete := by
  intro s draw n run refused
  have refuses {command status} (port : s.ci.port = .executing command)
      (serves : s.serve command draw = some (unserved status s)) : refused status :=
    commandComplete_of_serve port serves
  refine ⟨fun outside port => ?_, fun c number => ?_⟩
  · rcases port with port | port | ⟨key, check, port⟩
    · exact refuses port (congrArg some (State.serveRemove_outside outside))
    · exact refuses port (congrArg some (State.serveUnlock_outside outside))
    · exact refuses port (congrArg some (State.serveEnrol_outside outside))
  intro r becomes
  have changes {command x} (port : s.ci.port = .executing command)
      (serves : s.serve command draw = some (served (s.setCustodian c x))) : becomes x :=
    commandComplete_of_serve port serves
  refine ⟨fun key check port => ?_, fun port => ?_, fun port => ?_⟩
  · have serves : s.serve (.enrolCustodian n key check) draw = some _ :=
      congrArg some (State.serveEnrol_of_number number)
    refine ⟨fun zero => refuses port ?_, fun nonzero taken => refuses port ?_,
      fun nonzero vacant => changes port ?_⟩
    · rw [serves, if_pos zero]
    · rw [serves, if_neg nonzero, if_neg taken]
    · rw [serves, if_neg nonzero, if_pos vacant]
  · have serves : s.serve (.removeCustodian n) draw = some _ :=
      congrArg some (State.serveRemove_of_number number)
    refine ⟨fun unremovable => refuses port ?_, fun occupied absent => changes port ?_⟩
    · rw [serves, if_pos unremovable]
    · rw [serves, if_neg (not_or.mpr ⟨occupied, absent⟩), Custodian.vacant]
  · have serves : s.serve (.unlockCustodian n) draw = some _ :=
      congrArg some (State.serveUnlock_of_number number)
    refine ⟨fun unlocked => refuses port ?_, fun locked => changes port ?_⟩
    · rw [serves, if_neg unlocked]
    · rw [serves, if_pos locked]

end Sys2Proof.Machine

/-! The allowance and policy commands of R125 and R126: what each does to an entry by its data and
its state, the characters of a label, and the step that completes each command. -/

namespace Sys2Proof.Machine

/-! ## A command refused by its owner (R93, R124) -/

theorem commandComplete_of_unserved {s : State} {draw : Block} {c : Command}
    {status : ConsoleStatus} (port : s.ci.port = .executing c)
    (serves : s.serve c draw = some (unserved status s)) :
    exec (.commandComplete draw) s = .next (s.finish status []) :=
  commandComplete_of_serve port serves

/-! ## The policy of an entry (R3, R4, R13, R14) -/

section Policy

variable {e : Entry} {d : EntryMeta} {label : List Byte}

theorem Entry.grant_of_not_held {amount : Nat} (keyless : e.isHeld = false) :
    e.grant amount = none := by
  cases e with
  | held => cases keyless
  | empty | faulted => rfl

theorem Entry.revoke_of_data (data : e.data? = some d) :
    e.revoke = some (e.setData { d with allowance := 0 }) :=
  congrArg (Option.map _) data

theorem Entry.setRights_of_data {rights : Byte} (data : e.data? = some d) :
    e.setRights rights = some (e.setData { d with rights := rights }) :=
  congrArg (Option.map _) data

theorem Entry.setLabel_of_data (data : e.data? = some d) :
    e.setLabel label = some (e.setData { d with label := label }) :=
  congrArg (Option.map _) data

theorem Entry.allowance_setData_zero (nothing : d.allowance = 0) :
    (e.setData d).allowance = 0 := by
  cases e with
  | empty => rfl
  | held | faulted => exact nothing

/-- An entry with no allowance left passes no DERIVE, whichever of checks 4 to 6 stops it
(Table 3-1). -/
theorem deriveCheck_refuses_of_allowance_zero {body : DeriveBody} (nothing : e.allowance = 0)
    (asks : 1 ≤ body.count) : ∃ status, deriveCheck body e = .inl status := by
  cases e with
  | empty | faulted => exact ⟨_, rfl⟩
  | held d suspended current previous =>
    have left : d.allowance = 0 := nothing
    have short : d.allowance < body.count := by omega
    cases suspended with
    | true => exact ⟨_, rfl⟩
    | false =>
      simp only [deriveCheck, short, if_true, Bool.false_eq_true, if_false]
      split <;> exact ⟨_, rfl⟩

theorem labelFits_eq_false_iff :
    labelFits label = false ↔
      16 < label.length ∨ ∃ c ∈ label, c.toNat < 0x20 ∨ 0x7E < c.toNat := by
  simp only [labelFits, Bool.and_eq_false_iff, List.all_eq_false, decide_eq_false_iff_not,
    Bool.not_eq_true, Nat.not_le]
  rfl

end Policy

/-! ## What serving GRANT_ALLOWANCE and SET_LABEL gives (R125, R126) -/

theorem State.serveGrant_of_ne_zero {s : State} {b : Byte} {amount : BitVec 24}
    (nonzero : amount ≠ 0) : s.serveGrant b amount = s.onEntry b (Entry.grant amount.toNat) :=
  if_neg nonzero

theorem State.serveGrant_bad {s : State} {b : Byte} {amount : BitVec 24}
    (bad : 95 < b.toNat ∨ amount = 0) : s.serveGrant b amount = unserved .badValue s := by
  by_cases zero : amount = 0
  · exact if_pos zero
  · rw [State.serveGrant_of_ne_zero zero, State.onEntry_above (bad.resolve_right zero)]

theorem State.serveLabel_of_fits {s : State} {b : Byte} {label : List Byte}
    (fits : labelFits label = true) : s.serveLabel b label = s.onEntry b (Entry.setLabel label) :=
  if_pos fits

theorem State.serveLabel_bad {s : State} {b : Byte} {label : List Byte}
    (bad : 95 < b.toNat ∨ labelFits label = false) :
    s.serveLabel b label = unserved .badValue s := by
  cases fits : labelFits label with
  | false => exact if_neg (Bool.eq_false_iff.mp fits)
  | true =>
    rw [State.serveLabel_of_fits fits, State.onEntry_above (bad.resolve_right (by simp [fits]))]

/-! ## The five commands -/

/-- Settles O47: the values are checked first; then the entry that the index names decides, by
whether it holds a key (R125) or is not EMPTY (R126). -/
theorem policyCommandsComplete : Obligations.PolicyCommandsComplete := by
  intro s draw run refused becomes badLabel
  refine ⟨fun b amount port => ⟨fun bad => ?_, fun i index nonzero => ⟨fun keyless => ?_, ?_⟩⟩,
    fun b port => ⟨fun high => ?_, fun i index => ⟨fun empty => ?_, fun d data => ⟨?_, ?_⟩⟩⟩,
    fun b rights port => ⟨fun high => ?_, fun i index => ⟨fun empty => ?_, fun d data => ?_⟩⟩,
    fun b label port => ⟨fun bad => ?_, fun i index good => ?_⟩,
    fun threshold port => commandComplete_of_serve port rfl⟩
  -- GRANT_ALLOWANCE
  · exact commandComplete_of_unserved port (congrArg some (State.serveGrant_bad bad))
  · exact commandComplete_onEntry_none port (congrArg some (State.serveGrant_of_ne_zero nonzero))
      index (Entry.grant_of_not_held keyless)
  · intro d suspended current previous held
    refine commandComplete_onEntry_some port (congrArg some (State.serveGrant_of_ne_zero nonzero))
      index ((congrArg (Entry.grant amount.toNat) held).trans ?_)
    simp only [Entry.grant, Config.allowanceMax, Nat.min_def]
  -- REVOKE_ALLOWANCE
  · exact commandComplete_onEntry_above port rfl high
  · exact commandComplete_onEntry_none port rfl index (congrArg Entry.revoke empty)
  · exact commandComplete_onEntry_some port rfl index (Entry.revoke_of_data data)
  · exact fun body => deriveCheck_refuses_of_allowance_zero (Entry.allowance_setData_zero rfl)
  -- SET_RIGHTS
  · exact commandComplete_onEntry_above port rfl high
  · exact commandComplete_onEntry_none port rfl index (congrArg (Entry.setRights rights) empty)
  · exact commandComplete_onEntry_some port rfl index (Entry.setRights_of_data data)
  -- SET_LABEL
  · exact commandComplete_of_unserved port
      (congrArg some (State.serveLabel_bad (bad.imp_right labelFits_eq_false_iff.mpr)))
  · have fits : labelFits label = true :=
      Bool.not_eq_false _ ▸ mt labelFits_eq_false_iff.mp good
    have serves : s.serve (.setLabel b label) draw = some (s.onEntry b (Entry.setLabel label)) :=
      congrArg some (State.serveLabel_of_fits fits)
    exact ⟨fun empty => commandComplete_onEntry_none port serves index
        (congrArg (Entry.setLabel label) empty),
      fun d data => commandComplete_onEntry_some port serves index (Entry.setLabel_of_data data)⟩

end Sys2Proof.Machine

/-! The six channel commands of R128: what each gives on a channel record, what serving one gives
once its number names a channel, and the step that completes it. -/

namespace Sys2Proof.Machine

/-! ## Channel numbers (R49) -/

theorem channelNo?_eq_none {n : Nat} (h : 7 < n) : channelNo? n = none :=
  dif_neg (by omega)

theorem channelNo?_eq_some {n : Nat} {c : ChannelNo} (h : n = c.val) : channelNo? n = some c := by
  subst h
  exact dif_pos c.isLt

/-! ## The commands on a channel record (R51, R52, R53, R63) -/

section Record

variable {ch : Channel}

theorem Channel.openUp_of_closed (closed : ch.state = .closed) (key : ch.transport ≠ none) :
    ch.openUp = some { ch with state := .opened, served := 0 } := by
  obtain ⟨g, held⟩ := Option.ne_none_iff_exists'.mp key
  simp only [Channel.openUp, closed, held]

theorem Channel.openUp_eq_none (unfit : ch.state ≠ .closed ∨ ch.transport = none) :
    ch.openUp = none := by
  unfold Channel.openUp
  split
  · next closed held => exact absurd closed (unfit.resolve_right (by simp [held]))
  all_goals rfl

theorem Channel.halt_of_opened (opened : ch.state = .opened) :
    ch.halt = some { ch with state := .halted } := by
  simp only [Channel.halt, opened]

theorem Channel.halt_eq_none (unfit : ch.state ≠ .opened) : ch.halt = none := by
  cases state : ch.state with
  | opened => exact absurd state unfit
  | closed | halted => simp only [Channel.halt, state]

theorem Channel.resume_of_halted (halted : ch.state = .halted) :
    ch.resume = some { ch with state := .opened } := by
  simp only [Channel.resume, halted]

theorem Channel.resume_eq_none (unfit : ch.state ≠ .halted) : ch.resume = none := by
  cases state : ch.state with
  | halted => exact absurd state unfit
  | closed | opened => simp only [Channel.resume, state]

/-- Each waiting request becomes its answer, however the answer is written (R53). -/
theorem Channel.close_of_answers {answer : Request → Reply}
    (answers : ∀ r : Request, r.answer .channelClosed = answer r) :
    ch.close = { ch with
      state := .closed, requests := [], replies := ch.replies ++ ch.requests.map answer } := by
  simp only [Channel.close, answers]

theorem Channel.inTransmission_eq :
    ch.inTransmission = if ch.sent = none then [] else ch.replies.take 1 := by
  cases sent : ch.sent <;> simp only [Channel.inTransmission, sent, reduceCtorEq, if_true, if_false]

/-- The discard mark reaches the request in service exactly if it belongs to the channel (R45). -/
theorem ServiceUnit.markDiscard_eq (c : ChannelNo) (su : ServiceUnit) :
    su.markDiscard c = { su with
      inService := su.inService.map fun r =>
        if r.channel = c then { r with discard := true } else r } := by
  obtain ⟨pointer, _ | r⟩ := su
  · rfl
  · by_cases own : r.channel = c <;>
      simp only [ServiceUnit.markDiscard, own, Option.map_some, if_true, if_false]

end Record

/-! ## What serving a channel command gives (R128) -/

section Serving

variable {s : State} {draw : Block} {command : Command} {b limit : Byte} {binding : BitVec 16}
  {c : ChannelNo} {x : Channel} {f : Channel → Option Channel}

theorem State.onChannel_above (high : 7 < b.toNat) : s.onChannel b f = unserved .badValue s := by
  simp only [State.onChannel, channelNo?_eq_none high]

theorem State.onChannel_of_none (number : b.toNat = c.val) (noEffect : f (s.channel c) = none) :
    s.onChannel b f = unserved .state s := by
  simp only [State.onChannel, channelNo?_eq_some number, noEffect]

theorem State.onChannel_of_some (number : b.toNat = c.val) (effect : f (s.channel c) = some x) :
    s.onChannel b f = served (s.setChannel c x) := by
  simp only [State.onChannel, channelNo?_eq_some number, effect]

theorem State.serveSetChannel_bad
    (bad : binding = 65535 ∨ limit = 0 ∨ 4 < limit.toNat) :
    s.serveSetChannel b binding limit = unserved .badValue s := by
  refine if_pos (bad.imp_right (Or.imp_left fun zero => ?_))
  subst zero
  decide

theorem State.serveSetChannel_of_good (bound : binding ≠ 65535) (nonzero : limit ≠ 0)
    (small : limit.toNat ≤ 4) :
    s.serveSetChannel b binding limit =
      s.onChannel b fun ch => some (ch.configure binding limit.toNat) := by
  refine if_neg (not_or.mpr ⟨bound, ?_⟩)
  bv_omega

theorem State.serveSetChannel_above (high : 7 < b.toNat) :
    s.serveSetChannel b binding limit = unserved .badValue s := by
  unfold State.serveSetChannel
  rw [State.onChannel_above high, ite_self]

theorem State.serveFlush_above (high : 7 < b.toNat) : s.serveFlush b = unserved .badValue s := by
  simp only [State.serveFlush, channelNo?_eq_none high]

theorem State.serveFlush_of_number (number : b.toNat = c.val) :
    s.serveFlush b =
      served ((s.setChannel c (s.channel c).flush).withSu (s.su.markDiscard c)) := by
  simp only [State.serveFlush, channelNo?_eq_some number, State.mapChannel]

end Serving

/-! ## The six commands -/

/-- Settles O48: the number is checked first; a command on the channel it names then takes the
branch of the channel's state, and SET_CHANNEL that of its values. -/
theorem channelCommandsComplete : Obligations.ChannelCommandsComplete := by
  intro s draw b run refused
  have refuses {command status} (port : s.ci.port = .executing command)
      (serves : s.serve command draw = some (unserved status s)) : refused status :=
    commandComplete_of_unserved port serves
  refine ⟨fun high six => ?_, fun c number => ?_⟩
  · have above {f} : some (s.onChannel b f) = some (unserved .badValue s) :=
      congrArg some (State.onChannel_above high)
    rcases six with port | port | port | port | port | ⟨binding, limit, port⟩
    · exact refuses port above
    · exact refuses port above
    · exact refuses port above
    · exact refuses port above
    · exact refuses port (congrArg some (State.serveFlush_above high))
    · exact refuses port (congrArg some (State.serveSetChannel_above high))
  intro ch becomes
  have unchanged {command f} (port : s.ci.port = .executing command)
      (serves : s.serve command draw = some (s.onChannel b f)) (noEffect : f ch = none) :
      refused .state :=
    refuses port (serves.trans (congrArg some (State.onChannel_of_none number noEffect)))
  have changed {command f x} (port : s.ci.port = .executing command)
      (serves : s.serve command draw = some (s.onChannel b f)) (effect : f ch = some x) :
      becomes x :=
    commandComplete_of_serve port
      (serves.trans (congrArg some (State.onChannel_of_some number effect)))
  refine ⟨fun port => ⟨fun closed key => ?_, fun unfit => ?_⟩,
    fun port => ⟨fun opened => ?_, fun unfit => ?_⟩,
    fun port => ⟨fun halted => ?_, fun unfit => ?_⟩, fun port => ?_,
    fun binding limit port => ⟨fun bad => ?_, fun bound nonzero small => ?_⟩, fun port => ?_⟩
  · exact changed port rfl (Channel.openUp_of_closed closed key)
  · exact unchanged port rfl (Channel.openUp_eq_none unfit)
  · exact changed port rfl (Channel.halt_of_opened opened)
  · exact unchanged port rfl (Channel.halt_eq_none unfit)
  · exact changed port rfl (Channel.resume_of_halted halted)
  · exact unchanged port rfl (Channel.resume_eq_none unfit)
  · refine changed port rfl (congrArg some (Channel.close_of_answers fun ⟨tag, body⟩ => ?_))
    cases body <;> rfl
  · exact refuses port (congrArg some (State.serveSetChannel_bad bad))
  · exact changed port (congrArg some (State.serveSetChannel_of_good bound nonzero small)) rfl
  · intro kept
    have flushed : ch.flush = { ch with
        requests := []
        replies := kept
        refusal := none
        assembly := none
        admitted := ch.admitted - ch.requests.length - (ch.replies.length - kept.length) } := by
      simp only [Channel.flush, Channel.inTransmission_eq, Nat.sub_sub, kept]
    have serves : s.serve (.flushChannel b) draw = some _ :=
      congrArg some (State.serveFlush_of_number number)
    rw [flushed, ServiceUnit.markDiscard_eq] at serves
    exact commandComplete_of_serve port serves

end Sys2Proof.Machine

/-! The settings commands of R102, R129, R131 and R133: the values that each admits, what serving it
gives with values in and out of range, and the step that completes it. -/

namespace Sys2Proof.Machine

/-! ## Slot bytes and slot maps (R129) -/

section SlotMaps

variable {b length : Byte} {c : ChannelNo} {bytes : List Byte} {v : Vector (Option ChannelNo) 16}

theorem slotAssignment?_of_channel (channel : b.toNat = c.val) :
    slotAssignment? b = some (some c) := by
  have assigned : b ≠ 0xFF := by
    rintro rfl
    exact absurd channel (Nat.ne_of_gt (Nat.lt_trans c.isLt (by decide)))
  rw [slotAssignment?, if_neg assigned, channelNo?_eq_some channel, Option.map_some]

theorem slotAssignment?_isSome_iff :
    (slotAssignment? b).isSome = true ↔ b.toNat ≤ 7 ∨ b = 0xFF := by
  by_cases unassigned : b = 0xFF
  · simp only [slotAssignment?, unassigned, if_true, Option.isSome_some, or_true]
  · by_cases small : b.toNat ≤ 7
    · have inRange : b.toNat < 8 := by omega
      rw [slotAssignment?_of_channel (c := ⟨b.toNat, inRange⟩) rfl]
      simp only [Option.isSome_some, small, true_or]
    · rw [slotAssignment?, if_neg unassigned, channelNo?_eq_none (Nat.lt_of_not_le small)]
      simp only [Option.map_none, Option.isSome_none, Bool.false_eq_true, small, unassigned,
        or_self]

/-- The places that the list is read from are its bytes. -/
theorem slotPlaces_all_iff (sixteen : bytes.length = 16) :
    ((List.range 16).map fun i => slotAssignment? (bytes.getD i 0)).all Option.isSome = true ↔
      ∀ b ∈ bytes, (slotAssignment? b).isSome = true := by
  simp only [List.all_map, List.all_eq_true, List.mem_range, Function.comp_apply]
  refine ⟨fun all b mem => ?_, fun all i inRange => all _ ?_⟩
  · obtain ⟨i, inRange, rfl⟩ := List.getElem_of_mem mem
    have assigned := all i (sixteen ▸ inRange)
    rwa [List.getD_eq_getElem _ _ inRange] at assigned
  · rw [List.getD_eq_getElem _ _ (sixteen ▸ inRange)]
    exact List.getElem_mem _

theorem slotList?_eq_none (sixteen : bytes.length = 16)
    (bad : ¬∀ b ∈ bytes, (slotAssignment? b).isSome = true) : slotList? bytes = none :=
  if_neg fun good => bad ((slotPlaces_all_iff sixteen).mp good.2)

theorem exists_slotList?_eq_some (sixteen : bytes.length = 16)
    (good : ∀ b ∈ bytes, (slotAssignment? b).isSome = true) :
    ∃ v, slotList? bytes = some v ∧
      ∀ i (h : i < 16), slotAssignment? (bytes.getD i 0) = some v[i] := by
  refine ⟨_, if_pos ⟨sixteen, (slotPlaces_all_iff sixteen).mpr good⟩, fun i h => ?_⟩
  have inList : i < bytes.length := sixteen ▸ h
  have assigned : (slotAssignment? bytes[i]).isSome = true := good _ (List.getElem_mem inList)
  obtain ⟨x, read⟩ := Option.isSome_iff_exists.mp assigned
  simp [inList, read]

theorem SlotMap.channel_eq {n i : Nat} (h : i < 16) :
    SlotMap.channel { length := n, slots := v } i = v[i] :=
  dif_pos h

theorem slotMap?_eq_none (sixteen : bytes.length = 16)
    (bad : length.toNat < 2 ∨ 16 < length.toNat ∨ ∃ b ∈ bytes, ¬(b.toNat ≤ 7 ∨ b = 0xFF)) :
    slotMap? length bytes = none := by
  by_cases inRange : 2 ≤ length.toNat ∧ length.toNat ≤ 16
  · have unread := (bad.resolve_left (by omega)).resolve_left (by omega)
    rw [slotMap?, if_pos inRange, slotList?_eq_none sixteen, Option.map_none]
    simpa only [not_forall, slotAssignment?_isSome_iff, exists_prop] using unread
  · exact if_neg inRange

/-- A map in range has the length of its byte and assigns each slot as its byte says. -/
theorem exists_slotMap?_eq_some (sixteen : bytes.length = 16) (least : 2 ≤ length.toNat)
    (most : length.toNat ≤ 16) (good : ∀ b ∈ bytes, b.toNat ≤ 7 ∨ b = 0xFF) :
    ∃ m, slotMap? length bytes = some m ∧ m.length = length.toNat ∧
      ∀ i, i < 16 → slotAssignment? (bytes.getD i 0) = some (m.channel i) := by
  obtain ⟨v, read, slots⟩ :=
    exists_slotList?_eq_some sixteen fun b mem => slotAssignment?_isSome_iff.mpr (good b mem)
  refine ⟨{ length := length.toNat, slots := v }, ?_, rfl, fun i h => ?_⟩
  · rw [slotMap?, if_pos ⟨least, most⟩, read, Option.map_some]
  · rw [SlotMap.channel_eq h, slots i h]

end SlotMaps

/-! ## Supply codes and the low timer (R133, R164) -/

theorem code4?_eq_none {b : Byte} (high : 3 < b.toNat) : code4? b = none :=
  dif_neg (by omega)

theorem code4?_eq_some {b : Byte} {c : Fin 4} (code : b.toNat = c.val) : code4? b = some c := by
  have inRange : b.toNat < 4 := code ▸ c.isLt
  exact (dif_pos inRange).trans (congrArg some (Fin.ext code))

theorem Timer.rejudge_decide {below : Prop} [Decidable below] (t : Timer) :
    t.rejudge (decide below) = if below then t.rejudge true else .stopped := by
  by_cases h : below <;> cases t <;>
    simp only [Timer.rejudge, h, decide_true, decide_false, if_true, if_false, Bool.false_eq_true]

/-! ## The band and the configured monitor (R147, R153) -/

theorem bandLimit_eq (learned window baseline : Nat) :
    bandLimit learned window baseline =
      if learned + window < baseline then learned + window
      else if baseline + window < learned then learned - window
      else baseline := by
  unfold bandLimit
  split_ifs <;> omega

section Configured

variable {tm : TamperMonitor} {runUp window strikes : Nat} {drift : Bool}

theorem TamperMonitor.configure_of_armed (armed : tm.state = .armed) :
    tm.configure runUp window strikes drift =
      { tm with
        runUpCount := runUp, window := window, strikeLimit := strikes, drift := drift,
        meshA := tm.meshA.reband window, meshB := tm.meshB.reband window } := by
  simp only [TamperMonitor.configure, armed]

theorem TamperMonitor.configure_of_not_armed (unarmed : tm.state ≠ .armed) :
    tm.configure runUp window strikes drift =
      { tm with
        runUpCount := runUp, window := window, strikeLimit := strikes, drift := drift } := by
  cases state : tm.state with
  | armed => exact absurd state unarmed
  | unarmed | learning | tripped => simp only [TamperMonitor.configure, state]

end Configured

/-! ## What serving a settings command gives -/

section Serving

variable {s : State}

theorem State.serveSlotMap_bad {length : Byte} {slots : List Byte}
    (bad : slotMap? length slots = none) :
    s.serveSlotMap length slots = unserved .badValue s := by
  simp only [State.serveSlotMap, bad]

theorem State.serveSlotMap_of_map {length : Byte} {slots : List Byte} {m : SlotMap}
    (map : slotMap? length slots = some m) :
    s.serveSlotMap length slots = served (s.withLhi { s.lhi with pendingMap := some m }) := by
  simp only [State.serveSlotMap, map]

theorem State.serveTimeout_of_good {frames : BitVec 16} (least : 16 ≤ frames.toNat)
    (most : frames.toNat ≤ 1024) :
    s.serveTimeout frames = served (s.withLhi { s.lhi with timeout := frames.toNat }) :=
  if_neg (by omega)

theorem State.serveWindow_of_good {length : BitVec 16} (least : 30 ≤ length.toNat)
    (most : length.toNat ≤ 900) :
    s.serveWindow length =
      served (s.withCi { s.ci with window := { s.ci.window with length := length.toNat } }) :=
  if_neg (by omega)

theorem State.serveSupply_bad {criterion warning : Byte}
    (bad : 3 < criterion.toNat ∨ 3 < warning.toNat) :
    s.serveSupply criterion warning = unserved .badValue s := by
  rcases bad with high | high
  · simp only [State.serveSupply, code4?_eq_none high]
  · cases code : code4? criterion <;> simp only [State.serveSupply, code, code4?_eq_none high]

/-- The low timer that stands below the new criterion is the old one started, however that is
written (R164). -/
theorem State.serveSupply_of_codes {criterion warning : Byte} {c w : Fin 4} {started : Timer}
    (atCriterion : criterion.toNat = c.val) (atWarning : warning.toNat = w.val)
    (starts : s.ess.lowTimer.rejudge true = started) :
    s.serveSupply criterion warning =
      served (s.withEss { s.ess with
        criterion := c
        warning := w
        lowTimer := if s.pins.vdd < criterionMv c then started else .stopped }) := by
  simp only [State.serveSupply, code4?_eq_some atCriterion, code4?_eq_some atWarning,
    Timer.rejudge_decide, starts]

/-- The parameters of SET_MESH out of range (R131, Table 7-2). -/
def MeshOutOfRange (runUp : Byte) (window : BitVec 16) (strikes drift : Byte) : Prop :=
  3 < runUp.toNat ∨ window.toNat < 16 ∨ 1024 < window.toNat ∨ strikes = 0 ∨
    4 < strikes.toNat ∨ 1 < drift.toNat

section Mesh

variable {runUp strikes drift : Byte} {window : BitVec 16}

/-- The check that SET_MESH makes is that of its parameters' ranges. -/
theorem meshOutOfRange_iff :
    MeshOutOfRange runUp window strikes drift ↔
      3 < runUp.toNat ∨ window.toNat < 16 ∨ 1024 < window.toNat ∨ strikes.toNat < 1 ∨
        4 < strikes.toNat ∨ 1 < drift.toNat := by
  have zero : strikes = 0 ↔ strikes.toNat < 1 := by bv_omega
  rw [MeshOutOfRange, zero]

theorem State.serveMesh_bad (bad : MeshOutOfRange runUp window strikes drift) :
    s.serveMesh runUp window strikes drift = unserved .badValue s :=
  if_pos (meshOutOfRange_iff.mp bad)

theorem State.serveMesh_of_learning (good : ¬MeshOutOfRange runUp window strikes drift)
    (learning : s.tm.state = .learning) :
    s.serveMesh runUp window strikes drift = unserved .state s :=
  (if_neg (mt meshOutOfRange_iff.mpr good)).trans (if_pos learning)

theorem State.serveMesh_of_good (good : ¬MeshOutOfRange runUp window strikes drift)
    (idle : s.tm.state ≠ .learning) :
    s.serveMesh runUp window strikes drift =
      served (s.withTm (s.tm.configure (512 * 2 ^ runUp.toNat) window.toNat strikes.toNat
        (drift == 1))) := by
  have one : decide (drift.toNat = 1) = (drift == 1) := by
    rw [Bool.beq_eq_decide_eq]
    exact decide_eq_decide.mpr (by bv_omega)
  rw [← one]
  exact (if_neg (mt meshOutOfRange_iff.mpr good)).trans (if_neg idle)

end Mesh

end Serving

/-! ## The five commands -/

/-- Settles O49: each command's values are checked first; SET_MESH then looks at the monitor's
state, and SET_SUPPLY at VDD as it stands. -/
theorem settingCommandsComplete : Obligations.SettingCommandsComplete := by
  intro s draw run refused becomes
  have refuses {command status} (port : s.ci.port = .executing command)
      (serves : s.serve command draw = some (unserved status s)) : refused status :=
    commandComplete_of_unserved port serves
  have changes {command t} (port : s.ci.port = .executing command)
      (serves : s.serve command draw = some (served t)) : becomes t :=
    commandComplete_of_serve port serves
  refine ⟨fun length slots port sixteen => ?_,
    fun frames port => ⟨fun bad => ?_, fun least most => ?_⟩,
    fun length port => ⟨fun bad => ?_, fun least most => ?_⟩,
    fun criterion warning port => ⟨fun bad => ?_, fun c w atCriterion atWarning => ?_⟩,
    fun runUp window strikes drift port => ?_⟩
  -- WRITE_SLOT_MAP
  · intro good
    refine ⟨fun bad => refuses port (congrArg some (State.serveSlotMap_bad ?_)),
      fun least most assigned => ?_⟩
    · exact slotMap?_eq_none sixteen bad
    obtain ⟨m, map, sameLength, read⟩ := exists_slotMap?_eq_some sixteen least most assigned
    refine ⟨m, changes port (congrArg some (State.serveSlotMap_of_map map)), sameLength,
      fun i h => ⟨fun unassigned => ?_, fun c channel => ?_⟩⟩
    · exact (Option.some.inj ((congrArg slotAssignment? unassigned).symm.trans (read i h))).symm
    · exact (Option.some.inj ((slotAssignment?_of_channel channel).symm.trans (read i h))).symm
  -- SET_ASSEMBLY_TIMEOUT
  · exact refuses port (congrArg some (if_pos bad))
  · exact changes port (congrArg some (State.serveTimeout_of_good least most))
  -- SET_WINDOW
  · exact refuses port (congrArg some (if_pos bad))
  · exact changes port (congrArg some (State.serveWindow_of_good least most))
  -- SET_SUPPLY
  · exact refuses port (congrArg some (State.serveSupply_bad bad))
  · refine changes port (congrArg some (State.serveSupply_of_codes atCriterion atWarning ?_))
    cases s.ess.lowTimer <;> rfl
  -- SET_MESH
  · intro bad limited replaced
    have limits (r : MeshRecord) : r.reband window.toNat = limited r := by
      rw [MeshRecord.reband, bandLimit_eq]
    refine ⟨fun bad => ?_, fun good learning => ?_, fun good armed => ?_, fun good still => ?_⟩
    · exact refuses port (congrArg some (State.serveMesh_bad bad))
    · exact refuses port (congrArg some (State.serveMesh_of_learning good learning))
    · have idle : s.tm.state ≠ .learning := by simp [armed]
      have serves : s.serve (.setMesh runUp window strikes drift) draw = some _ :=
        congrArg some (State.serveMesh_of_good good idle)
      rw [TamperMonitor.configure_of_armed armed, limits, limits] at serves
      exact changes port serves
    · have idle : s.tm.state ≠ .learning ∧ s.tm.state ≠ .armed := by
        rcases still with state | state <;> simp [state]
      have serves : s.serve (.setMesh runUp window strikes drift) draw = some _ :=
        congrArg some (State.serveMesh_of_good good idle.1)
      rw [TamperMonitor.configure_of_not_armed idle.2] at serves
      exact changes port serves

end Sys2Proof.Machine

/-! The commands on the tamper monitor of R130 and R132: the emptiness that DISARM asks for, how
learning begins, what serving each command gives by the monitor's state, and the step that completes
it. -/

namespace Sys2Proof.Machine

section Monitor

variable {s : State}

/-! ## The emptiness of the tables (R130) -/

theorem Entry.isEmpty_iff {e : Entry} : e.isEmpty = true ↔ e = .empty := by
  cases e <;> simp only [Entry.isEmpty, reduceCtorEq]

theorem State.tableEmpty_iff : s.tableEmpty = true ↔ ∀ i, s.entry i = .empty := by
  simp only [State.tableEmpty, List.all_eq_true, Vector.mem_toList_iff, Entry.isEmpty_iff]
  refine ⟨fun all i => all _ (Vector.getElem_mem i.isLt), fun all e mem => ?_⟩
  obtain ⟨i, h, rfl⟩ := Vector.getElem_of_mem mem
  exact all ⟨i, h⟩

theorem State.noTransportKeys_iff :
    s.noTransportKeys = true ↔ ∀ c, (s.channel c).transport = none := by
  simp only [State.noTransportKeys, List.all_eq_true, Vector.mem_toList_iff,
    Option.isNone_iff_eq_none]
  refine ⟨fun all c => all _ (Vector.getElem_mem c.isLt), fun all ch mem => ?_⟩
  obtain ⟨c, h, rfl⟩ := Vector.getElem_of_mem mem
  exact all ⟨c, h⟩

/-! ## Learning begins (R149, R150) -/

/-- With both lids closed the record is fresh, and keeps whether a conversion was in progress. -/
theorem State.beginLearning_of_closed (lidA : s.ess.lidA.isOpen = false)
    (lidB : s.ess.lidB.isOpen = false) :
    s.beginLearning = { s with
      tm.state := .learning
      tm.learning := some { begunBefore := s.tm.conversion.isSome, a := Tally.empty,
                            b := Tally.empty } } := by
  have closed : ¬(s.ess.lidA.isOpen || s.ess.lidB.isOpen) = true := by simp [lidA, lidB]
  exact if_neg closed

theorem State.failLearning_eq :
    s.failLearning = { s with
      tm.state := .unarmed, tm.learning := none, ci.flags := s.ci.flags ||| 0x100 } :=
  rfl

/-- With a lid open learning fails in the step in which it begins. -/
theorem State.beginLearning_of_open
    (lid : s.ess.lidA.isOpen = true ∨ s.ess.lidB.isOpen = true) :
    s.beginLearning = s.failLearning := by
  have opened : (s.ess.lidA.isOpen || s.ess.lidB.isOpen) = true := by rwa [Bool.or_eq_true]
  exact if_pos opened

/-! ## What serving the commands gives by the monitor's state -/

theorem State.serveArm_of_unarmed (unarmed : s.tm.state = .unarmed) :
    s.serveArm = served s.beginLearning := by
  simp only [State.serveArm, unarmed]

theorem State.serveArm_of_not_unarmed (other : s.tm.state ≠ .unarmed) :
    s.serveArm = unserved .state s := by
  cases state : s.tm.state with
  | unarmed => exact absurd state other
  | learning | armed | tripped => simp only [State.serveArm, state]

theorem State.serveAck_of_tripped (tripped : s.tm.state = .tripped) :
    s.serveAck = served { s with ec.record.acknowledged := true, tm.state := .unarmed } := by
  simp only [State.serveAck, tripped]
  rfl

theorem State.serveAck_of_not_tripped (other : s.tm.state ≠ .tripped) :
    s.serveAck = unserved .state s := by
  cases state : s.tm.state with
  | tripped => exact absurd state other
  | unarmed | learning | armed => simp only [State.serveAck, state]

theorem State.serveDisarm_of_empty (armed : s.tm.state = .armed)
    (entries : ∀ i, s.entry i = .empty) (keys : ∀ c, (s.channel c).transport = none) :
    s.serveDisarm = served (s.withTm { s.tm with state := .unarmed }) :=
  if_pos ⟨armed, State.tableEmpty_iff.mpr entries, State.noTransportKeys_iff.mpr keys⟩

theorem State.serveDisarm_refused
    (unfit : s.tm.state ≠ .armed ∨
      ¬((∀ i, s.entry i = .empty) ∧ ∀ c, (s.channel c).transport = none)) :
    s.serveDisarm = unserved .state s := by
  refine if_neg fun ⟨armed, entries, keys⟩ => ?_
  rcases unfit with other | standing
  · exact other armed
  · exact standing ⟨State.tableEmpty_iff.mp entries, State.noTransportKeys_iff.mp keys⟩

end Monitor

/-! ## The three commands -/

/-- Settles O50: the monitor's state decides each command; ARM then looks at the lids, and DISARM at
the entries and the transport keys. -/
theorem monitorCommandsComplete : Obligations.MonitorCommandsComplete := by
  intro s draw run refused becomes noReadings
  have refuses {command} (port : s.ci.port = .executing command)
      (serves : s.serve command draw = some (unserved .state s)) : refused :=
    commandComplete_of_unserved port serves
  have changes {command t} (port : s.ci.port = .executing command)
      (serves : s.serve command draw = some (served t)) : becomes t :=
    commandComplete_of_serve port serves
  refine ⟨fun port => ⟨fun other => ?_, fun unarmed lidA lidB => ?_, fun unarmed lid => ?_⟩,
    fun port => ?_, fun port => ⟨fun tripped => ?_, fun other => ?_⟩⟩
  -- ARM
  · exact refuses port (congrArg some (State.serveArm_of_not_unarmed other))
  · exact changes port (congrArg some ((State.serveArm_of_unarmed unarmed).trans
      (congrArg served (State.beginLearning_of_closed lidA lidB))))
  · exact changes port (congrArg some ((State.serveArm_of_unarmed unarmed).trans
      (congrArg served ((State.beginLearning_of_open lid).trans State.failLearning_eq))))
  -- DISARM
  · exact ⟨fun armed ⟨entries, keys⟩ =>
        changes port (congrArg some (State.serveDisarm_of_empty armed entries keys)),
      fun unfit => refuses port (congrArg some (State.serveDisarm_refused unfit))⟩
  -- ACK_TRIP
  · exact changes port (congrArg some (State.serveAck_of_tripped tripped))
  · exact refuses port (congrArg some (State.serveAck_of_not_tripped other))

end Sys2Proof.Machine

/-! MEASURE_NOW (R154): a row whose command completes at its take, the two refusals of R92 for a
command of class one, the acceptance that restarts the window, and the conversion that takes the place
of the one in progress. -/

namespace Sys2Proof.Machine

section Row

variable {s t : State} {c : Command} {draw : Block} {status : ConsoleStatus} {body : List Byte}
  {reply : Option ReplyFrame} {tm : TamperMonitor} {cv : Conversion}

/-! ## A row whose command completes at its take (R93) -/

/-- A port that is READY has no command in progress left to complete. -/
theorem State.completeCommand_finish :
    (s.finish status body).completeCommand draw = s.finish status body := by
  simp only [State.completeCommand, State.finish_port]

theorem State.commandRow_of_finished (port : s.ci.port = .ready reply)
    (taken : s.takeCommand c = t.finish status body) :
    s.commandRow c draw = t.finish status body := by
  simp only [State.commandRow, port, taken, State.completeCommand_finish]

theorem State.commandRow_of_refused (port : s.ci.port = .ready reply)
    (refused : s.takeRefusal c = some status) :
    s.commandRow c draw = s.finish status [] := by
  refine State.commandRow_of_finished port ?_
  simp only [State.takeCommand, refused, State.refuse]

/-! ## The checks at the take (R92) -/

theorem State.erasing_of_position (position : s.ec.position ≠ none) : s.erasing = true :=
  Option.isSome_iff_ne_none.mpr position

theorem State.takeRefusal_of_erasing (position : s.ec.position ≠ none)
    (waits : c.servedDuringErase = false) :
    s.takeRefusal c = some .erasing := by
  simp only [State.takeRefusal, State.erasing_of_position position, waits, Bool.not_false,
    Bool.and_self, if_true]

/-- With no erase in progress the presence check is the only one. -/
theorem State.takeRefusal_of_no_erase (position : s.ec.position = none) :
    s.takeRefusal c = s.presenceRefusal c := by
  simp only [State.takeRefusal, State.erasing, position, Option.isSome_none, Bool.false_and,
    Bool.false_eq_true, if_false]

theorem State.presenceRefusal_of_nobody (one : c.presenceClass = .one)
    (notFresh : s.freshPart c = false) (nobody : s.ci.presence = []) :
    s.presenceRefusal c = some .notPresent := by
  simp only [State.presenceRefusal, notFresh, one, nobody, Bool.false_eq_true, if_false]

theorem State.presenceRefusal_of_somebody (one : c.presenceClass = .one)
    (somebody : 1 ≤ s.ci.presence.length) :
    s.presenceRefusal c = none := by
  obtain ⟨first, rest, present⟩ := List.exists_cons_of_length_pos somebody
  simp only [State.presenceRefusal, one, present, ite_self]

/-! ## The acceptance (R92, R102) -/

theorem PresenceWindow.restart_eq (w : PresenceWindow) :
    w.restart = { w with remaining := if w.running then w.length else w.remaining } := by
  unfold PresenceWindow.restart
  split <;> rfl

theorem State.accept_of_restarts (restarts : s.restartsWindow c = true) :
    s.accept c = { s.windowRestarted with ci.port := .executing c } := by
  simp only [State.accept, restarts, if_true, PresenceWindow.restart_eq]
  rfl

/-! ## The conversion that takes the place of the one in progress (R142, R154) -/

/-- The monitor with a conversion started again on a mesh, whose last-valid flag is lost. -/
def TamperMonitor.restartOn (m : Mesh) (tm : TamperMonitor) : TamperMonitor :=
  { tm.setMesh m { tm.mesh m with lastValid := false } with
    conversion := some (Conversion.start m tm.runUpCount), nextMesh := m.other }

theorem TamperMonitor.discard_begin_sameMesh (running : tm.conversion = some cv) :
    tm.discard.begin tm.sameMesh tm.runUpCount = tm.restartOn cv.mesh := by
  simp only [TamperMonitor.discard, TamperMonitor.sameMesh, TamperMonitor.begin, running,
    TamperMonitor.restartOn]

theorem State.serveMeasure_of_not_learning (running : s.tm.conversion = some cv)
    (other : s.tm.state ≠ .learning) :
    s.serveMeasure = served (s.withTm (s.tm.restartOn cv.mesh)) := by
  simp only [State.serveMeasure, TamperMonitor.discard_begin_sameMesh running,
    beq_eq_false_iff_ne.mpr other, Bool.false_eq_true, if_false]

theorem State.serveMeasure_of_learning (running : s.tm.conversion = some cv)
    (learning : s.tm.state = .learning) :
    s.serveMeasure = served (s.withTm (s.tm.restartOn cv.mesh)).failLearning := by
  simp only [State.serveMeasure, TamperMonitor.discard_begin_sameMesh running,
    beq_iff_eq.mpr learning, if_true]

/-! ## The command -/

theorem exec_measureNow_of_refused (port : s.ci.port = .ready reply)
    (refused : s.takeRefusal .measureNow = some status) :
    exec .measureNow s = .next (s.finish status []) :=
  congrArg Host.Outcome.next (State.commandRow_of_refused port refused)

/-- An accepted MEASURE_NOW is served, and its reply placed, in the step of the take. -/
theorem exec_measureNow_of_taken (takes : s.TakesWith 1)
    (serves : (s.accept .measureNow).serveMeasure = served t) :
    exec .measureNow s = .next (t.finish .done []) := by
  obtain ⟨⟨reply, port⟩, position, somebody⟩ := takes
  have accepted : s.takeRefusal .measureNow = none :=
    (State.takeRefusal_of_no_erase position).trans (State.presenceRefusal_of_somebody rfl somebody)
  refine congrArg Host.Outcome.next (State.commandRow_of_finished port ?_)
  have completes : exec (.commandComplete 0) (s.accept .measureNow) = .next (t.finish .done []) :=
    commandComplete_of_serve (c := .measureNow) rfl (congrArg some serves)
  simp only [State.takeCommand, accepted]
  exact Host.Outcome.next.inj completes

end Row

/-- Settles O43: the two checks of the take refuse it in order; otherwise the serving replaces the
conversion on its own mesh, and fails a learning monitor. -/
theorem measureNowRestartsTheConversion : Obligations.MeasureNowRestartsTheConversion := by
  refine ⟨fun s reply port position => ?_, fun s reply port position nobody => ?_,
    fun s takes cv running => ?_⟩
  · exact exec_measureNow_of_refused port (State.takeRefusal_of_erasing position rfl)
  · exact exec_measureNow_of_refused port ((State.takeRefusal_of_no_erase position).trans
      (State.presenceRefusal_of_nobody rfl rfl nobody))
  · intro fresh measured
    refine ⟨fun other => ?_, fun learning => ?_⟩
    · have serves := State.serveMeasure_of_not_learning (s := s.accept .measureNow) running other
      rw [exec_measureNow_of_taken takes serves, State.accept_of_restarts rfl]
      obtain ⟨mesh, _, _, _⟩ := cv
      cases mesh <;> rfl
    · have serves := State.serveMeasure_of_learning (s := s.accept .measureNow) running learning
      rw [exec_measureNow_of_taken takes serves, State.failLearning_eq,
        State.accept_of_restarts rfl]
      obtain ⟨mesh, _, _, _⟩ := cv
      cases mesh <;> rfl

end Sys2Proof.Machine

/-! What a command of the opcode table gives, said once: `exec_arm` names each next state that a
command can answer, with the condition under which it answers it. Later proofs about every command go
by cases on `State.Arm`. -/

namespace Sys2Proof.Machine

/-- The next states of each command, the rows of one meaning together. -/
inductive State.Arm (s : State) : Instr → State → Prop where
  /-- The command's event cannot occur in the standing state (assumption log 3). -/
  | stands {i : Instr} : Arm s i s
  | frameStart (gap : s.lhi.highway = .running .gap) : Arm s .frameStart (s.moveTo (.inFrame 0 31))
  | earlySync {slot bit : Nat} (inside : s.lhi.highway = .running (.inFrame slot bit)) :
      Arm s .earlyFrameSync
        (((s.cutWord.mapChannels Channel.breakAssembly).raiseEvent .frameSlip).moveTo .gap)
  | wordFixed {slot : Nat} {c : ChannelNo} (first : s.lhi.highway = .running (.inFrame slot 31))
      (unfixed : s.lhi.tx = none) (assigned : s.lhi.active.channel slot = some c) :
      Arm s .slotWordFixed (s.fixWord c)
  | slotEnd {slot bit : Nat} {hrd hrm : Word} {sentFirst : Bool}
      (inside : s.lhi.highway = .running (.inFrame slot bit)) :
      Arm s (.slotEnd hrd hrm sentFirst)
        ((s.withPins { s.pins with hrd := hrd, hrm := hrm }).endSlot slot
          (sampleRest { s.pins with hrd := hrd, hrm := hrm } bit s.lhi.rx) sentFirst)
  | timesOut {c : ChannelNo} (gap : s.lhi.highway = .running .gap) :
      Arm s (.assemblyTimeout c) (s.mapChannel c (Channel.timeOut s.lhi.compared))
  | runs {n : Nat} (enabling : s.lhi.highway = .enabling n) : Arm s .highwayRunning (s.moveTo .gap)
  | selects {c : ChannelNo} {r : Request} {rest : List Request} {t : State}
      (free : s.su.inService = none) (next : s.selected = some c)
      (head : (s.channel c).requests = r :: rest)
      (begins : ((s.setChannel c { s.channel c with requests := rest }).withSu
        { s.su with pointer := c }).startService c r = .next t) :
      Arm s .suSelection t
  | claimEnds {claim : Claim} (current : s.cc.current = some claim) :
      Arm s .ccClaimComplete (s.completeClaim claim)
  | row {i : Instr} {c : Command} {draw : Block} {reply : Option ReplyFrame}
      (spells : c.row? draw = some i) (port : s.ci.port = .ready reply) :
      Arm s i ((s.takeCommand c).completeCommand draw)
  | longLabel {kind target generation components : Byte} {issuer : IssuerTag}
      {rights labelLength : Byte} {label : List Byte} {reply : Option ReplyFrame}
      (port : s.ci.port = .ready reply) :
      Arm s (.openCeremony kind target generation components issuer rights labelLength label)
        (s.refuse .badFrame)
  | write {i : Instr} {w : WriteTransaction} (writes : i = .badFrame w ∨ i = .commandTaken w) :
      Arm s i (s.portWriteAt w)
  | completes {draw : Block} : Arm s (.commandComplete draw) (s.completeCommand draw)
  | second : Arm s .cabinetSecondAdvance
      (s.withPwr { s.pwr with seconds := s.pwr.seconds + 1 }).tickWindow.expireChallenge.startSample
  | windowEnds (runs : s.ci.window.running = true) (ended : s.ci.window.remaining = 0) :
      Arm s .windowExpiry s.windowAtZero
  | challengeEnds : Arm s .challengeExpiry s.expireChallenge
  | battery {vbat elapsed : Nat} (sampling : s.ess.sample = some elapsed) :
      Arm s (.batterySampleLatch vbat)
        ((s.withEss { s.ess with sample := none, result := some (latchResult s.ess.warning vbat) }
          ).judgeBattery (latchResult s.ess.warning vbat))
  | converts {cv : Conversion} {crossing : Nat} (running : s.tm.conversion = some cv) :
      Arm s (.conversionComplete crossing) (s.completeConversion cv crossing)
  | holdConverts (schedule : s.tm.schedule = .hold) (idle : s.tm.conversion = none) :
      Arm s .holdConversionStart (s.withTm (s.tm.begin s.tm.nextMesh Config.holdRunUp))
  | lids {aOpen bOpen : Bool} {a b : Lid} (sampledA : a = s.ess.lidA.sample s.pwr.supply.lidRun aOpen)
      (sampledB : b = s.ess.lidB.sample s.pwr.supply.lidRun bOpen) :
      Arm s (.lidSample aOpen bOpen)
        (((s.withEss { s.ess with lidA := a, lidB := b }).reportIf (lidOpened s.ess.lidA a)).reportIf
          (lidOpened s.ess.lidB b))
  | emzFalls (high : s.ess.emzHigh = true) :
      Arm s .emzFallingEdge (((s.withEss { s.ess with emzHigh := false }).withPins
        { s.pins with emzHigh := false }).trigger .emergency)
  | emzRises : Arm s .emzRisingEdge
      ((s.withEss { s.ess with emzHigh := true }).withPins { s.pins with emzHigh := true })
  | vdd {i : Instr} {pins : SupplyPins}
      (moves : i = .vddBelowCriterion pins ∨ i = .vddAtCriterion pins ∨
        i = .vddAboveReturnLevel pins ∨ i = .vddAtReturnLevel pins) :
      Arm s i (s.vddMoves pins)
  | lowTimer (power : s.pwr.supply.normalPower = true) (running : s.ess.lowTimer.isRunning = true) :
      Arm s .lowTimerExpiry
        (s.withEss { s.ess with lowTimer := .atLimit, holdSent := true }).requestHold
  | returnTimer (hold : s.pwr.supply.normalPower = false)
      (running : s.ess.returnRuns s.pins.vdd = true) (fed : s.pwr.batteryLost = false) :
      Arm s .returnTimerExpiry (s.withEss { s.ess with returnTimer := .atLimit }).requestRestart
  | resetLow : Arm s .resetLow (s.withPins { s.pins with resetLow := true }).requestReset
  | resetHigh : Arm s .resetRelease (s.withPins { s.pins with resetLow := false }).releaseReset
  | feedLost : Arm s .retentionFeedLoss s.unfed
  | coldStart {emzHigh : Bool} {adr : BitVec 2} {vdd : Nat} (lost : s.pwr.batteryLost = true) :
      Arm s (.coldStart emzHigh adr vdd)
        ((State.cold { s.pins with vdd := vdd, emzHigh := emzHigh, adr := adr }).withPending s.pending)
  | erases {i : EntryIndex} (position : s.ec.position = some i) : Arm s .eraseEntry (s.eraseAt i)

variable {s t : State} {i : Instr}

/-- A row of one command, on a READY port or without effect. -/
theorem State.Arm.of_commandRow {c : Command} {draw : Block} (spells : c.row? draw = some i) :
    s.Arm i (s.commandRow c draw) := by
  unfold State.commandRow
  split
  · exact .row spells ‹_›
  all_goals exact .stands

/-- A row with a condition answers its meaning where the condition holds, and stands elsewhere. -/
theorem State.Arm.of_ite {p : Prop} [Decidable p] {x : State} (arm : p → s.Arm i x)
    (h : (if p then Host.Outcome.next x else .next s : Host.Outcome State Fault Refusal) = .next t) :
    s.Arm i t := by
  split at h
  · exact Host.Outcome.next.inj h ▸ arm ‹_›
  · exact Host.Outcome.next.inj h ▸ .stands

/-- Each row by its meaning. -/
theorem exec_arm (h : exec i s = .next t) : s.Arm i t := by
  cases i with
  | frameStart | highwayRunning | assemblyTimeout c | earlyFrameSync | slotEnd hrd hrm sentFirst =>
    simp only [exec, execFrameStart, execHighwayRunning, execAssemblyTimeout, execEarlyFrameSync,
      execSlotEnd] at h
    split at h <;> cases h <;> constructor <;> assumption
  | slotWordFixed =>
    simp only [exec, execSlotWordFixed] at h
    split at h
    · next slot first unfixed =>
      split at h <;> cases h
      · exact .wordFixed first unfixed ‹_›
      · exact .stands
    · cases h
      exact .stands
  | suSelection =>
    simp only [exec, execSuSelection] at h
    split at h
    · next c free next =>
      split at h
      · exact .selects free next ‹_› h
      · cases h
        exact .stands
    all_goals
      cases h
      exact .stands
  | ccClaimComplete | batterySampleLatch vbat | conversionComplete crossing | eraseEntry =>
    simp only [exec, execCcClaimComplete, execBatterySampleLatch, execConversionComplete,
      execEraseEntry] at h
    split at h <;> cases h <;> constructor <;> assumption
  | holdConversionStart =>
    simp only [exec, execHoldConversionStart] at h
    split at h <;> cases h <;> constructor <;> assumption
  | badFrame w => exact Host.Outcome.next.inj h ▸ .write (.inl rfl)
  | commandTaken w => exact Host.Outcome.next.inj h ▸ .write (.inr rfl)
  | commandComplete draw => exact Host.Outcome.next.inj h ▸ .completes
  | status | challenge draw | respond n response | readEvents | readTamperRecord | logoff n
  | cancelCeremony | zeroize | measureNow | readEntry index | readChannel n | readMesh
  | setEventEnables e | enterComponent n block1 block2 check | commit expected =>
    exact Host.Outcome.next.inj h ▸ .of_commandRow rfl
  | openCeremony kind target generation components issuer rights labelLength label =>
    simp only [exec, execOpenCeremony] at h
    split at h
    · exact Host.Outcome.next.inj h ▸ .of_commandRow rfl
    · split at h <;> cases h
      · exact .longLabel ‹_›
      all_goals exact .stands
  | cabinetSecondAdvance => exact Host.Outcome.next.inj h ▸ .second
  | windowExpiry =>
    exact .of_ite (fun p => by
      rw [Bool.and_eq_true, decide_eq_true_iff] at p
      exact .windowEnds p.1 p.2) h
  | challengeExpiry => exact Host.Outcome.next.inj h ▸ .challengeEnds
  | lidSample aOpen bOpen => exact Host.Outcome.next.inj h ▸ .lids rfl rfl
  | emzFallingEdge => exact .of_ite .emzFalls h
  | emzRisingEdge => exact Host.Outcome.next.inj h ▸ .emzRises
  | vddBelowCriterion pins => exact .of_ite (fun _ => .vdd (.inl rfl)) h
  | vddAtCriterion pins => exact .of_ite (fun _ => .vdd (.inr (.inl rfl))) h
  | vddAboveReturnLevel pins => exact .of_ite (fun _ => .vdd (.inr (.inr (.inl rfl)))) h
  | vddAtReturnLevel pins => exact .of_ite (fun _ => .vdd (.inr (.inr (.inr rfl)))) h
  | lowTimerExpiry =>
    exact .of_ite (fun p => by
      rw [Bool.and_eq_true] at p
      exact .lowTimer p.1 p.2) h
  | returnTimerExpiry =>
    exact .of_ite (fun p => by
      simp only [Bool.and_eq_true, Bool.not_eq_true'] at p
      exact .returnTimer p.1.1 p.1.2 p.2) h
  | resetLow => exact Host.Outcome.next.inj h ▸ .resetLow
  | resetRelease => exact Host.Outcome.next.inj h ▸ .resetHigh
  | retentionFeedLoss => exact Host.Outcome.next.inj h ▸ .feedLost
  | coldStart emzHigh adr vdd => exact .of_ite .coldStart h

end Sys2Proof.Machine

/-! What the console's operations give, said once: what serving a command can change
(`serve_serving`), what an accepted command does at its take, and what a take, a write transaction and a
completion come to. -/

namespace Sys2Proof.Machine

/-! ## Serving a command (R124) -/

/-- A channel command that its channel's state admits (R51, R52, R53, R55). -/
inductive Channel.Commanded (ch : Channel) : Channel → Prop where
  | opened {ch' : Channel} (h : ch.openUp = some ch') : Commanded ch ch'
  | halted {ch' : Channel} (h : ch.halt = some ch') : Commanded ch ch'
  | resumed {ch' : Channel} (h : ch.resume = some ch') : Commanded ch ch'
  | closed : Commanded ch ch.close
  | configured (binding : BitVec 16) {limit : Nat} (least : 1 ≤ limit) (most : limit ≤ 4) :
      Commanded ch (ch.configure binding limit)

/-- What serving each command can leave. -/
inductive State.Serving (s : State) : Command → State → Prop where
  /-- A read other than READ_EVENTS, or a refusal. -/
  | unchanged {c : Command} : Serving s c s
  | entry {c : Command} (i : EntryIndex) (e : Entry)
      (keyless : (s.entry i).isHeld = false → e.isHeld = false)
      (empty : s.entry i = .empty → e = .empty) : Serving s c (s.setEntry i e)
  | threshold {c : Command} (n : Nat) : Serving s c (s.withKt { s.kt with threshold := n })
  | channel {c : Command} (n : ChannelNo) {ch : Channel} (h : (s.channel n).Commanded ch) :
      Serving s c (s.setChannel n ch)
  | flushed {c : Command} (n : ChannelNo) :
      Serving s c ((s.mapChannel n Channel.flush).withSu (s.su.markDiscard n))
  | slotMap {c : Command} (m : SlotMap) (least : 2 ≤ m.length) (most : m.length ≤ 16) :
      Serving s c (s.withLhi { s.lhi with pendingMap := some m })
  | timeout {c : Command} (n : Nat) (least : 16 ≤ n) (most : n ≤ 1024) :
      Serving s c (s.withLhi { s.lhi with timeout := n })
  | arms (unarmed : s.tm.state = .unarmed) : Serving s .arm s.beginLearning
  | disarms (armed : s.tm.state = .armed) (keyless : s.noKeys) :
      Serving s .disarm (s.withTm { s.tm with state := .unarmed })
  | mesh {c : Command} (runUp window strikes : Nat) (drift : Bool)
      (settled : s.tm.state ≠ .learning) :
      Serving s c (s.withTm (s.tm.configure runUp window strikes drift))
  | acknowledges (tripped : s.tm.state = .tripped) : Serving s .ackTrip
      ((s.withEc { s.ec with record := { s.ec.record with acknowledged := true } }).withTm
        { s.tm with state := .unarmed })
  | supply {c : Command} (e : SupplySensing) : Serving s c (s.withEss e)
  | enrols {c : Command} (n : CustodianNo) (r : Custodian)
      (vacant : (s.custodian n).state = .vacant) : Serving s c (s.setCustodian n r)
  | removes {c : Command} (n : CustodianNo) (absent : n ∉ s.ci.presence) :
      Serving s c (s.setCustodian n Custodian.vacant)
  | unlocks {c : Command} (n : CustodianNo) (locked : (s.custodian n).state = .locked) :
      Serving s c (s.setCustodian n { s.custodian n with state := .enrolled, failures := 0 })
  | windowLength {c : Command} (n : Nat) :
      Serving s c (s.withCi { s.ci with window := { s.ci.window with length := n } })
  | leaves {c : Command} (n : CustodianNo) (present : n ∈ s.ci.presence) :
      Serving s c (s.shrinkPresence (s.ci.presence.erase n))
  | enables {c : Command} (x : BitVec 11) : Serving s c (s.withCi { s.ci with enables := x })
  | drawn {c : Command} (x : Option Challenge) (r : RandomSource) :
      Serving s c (s.withCi { s.ci with challenge := x, random := r })
  | eventsRead {c : Command} :
      Serving s c (s.withCi { s.ci with flags := 0, violations := ViolationLatch.clear })
  | measures : Serving s .measureNow s.serveMeasure.state
  | cancels {c : Command} : Serving s c (s.withCec none)
  | zeroizes : Serving s .zeroize (s.trigger .custodian)

section Serving

variable {s : State} {c : Command} {b : Byte}

theorem Entry.setData_isHeld (d : EntryMeta) (e : Entry) : (e.setData d).isHeld = e.isHeld := by
  cases e <;> rfl

theorem State.Serving.of_onEntry {f : Entry → Option Entry}
    (keyless : ∀ e e', f e = some e' → e.isHeld = false → e'.isHeld = false)
    (empty : ∀ e', f .empty = some e' → e' = .empty) : s.Serving c (s.onEntry b f).state := by
  unfold State.onEntry
  split
  · exact .unchanged
  · split
    · exact .unchanged
    · next i _ _ e' changed =>
      exact .entry i e' (keyless _ _ changed) fun h => empty e' (h ▸ changed)

/-- An operation on the policy fields keeps what an entry holds. -/
theorem State.Serving.of_onEntry_setData {f : EntryMeta → EntryMeta} :
    s.Serving c (s.onEntry b fun e => e.data?.map fun d => e.setData (f d)).state := by
  refine .of_onEntry (fun e e' h => ?_) (fun e' h => nomatch h)
  obtain ⟨d, -, rfl⟩ := Option.map_eq_some_iff.mp h
  exact fun keyless => (Entry.setData_isHeld _ e).trans keyless

theorem State.Serving.of_onChannel {f : Channel → Option Channel}
    (h : ∀ ch ch', f ch = some ch' → ch.Commanded ch') : s.Serving c (s.onChannel b f).state := by
  unfold State.onChannel
  split
  · exact .unchanged
  · split
    · exact .unchanged
    · exact .channel _ (h _ _ ‹_›)

/-- A command refused with its values, or served as the owner serves it. -/
theorem State.Serving.of_ite {p : Prop} [Decidable p] {status : ConsoleStatus} {x : Served}
    (h : ¬p → s.Serving c x.state) : s.Serving c (if p then unserved status s else x).state := by
  split
  · exact .unchanged
  · exact h ‹_›

theorem slotMap?_length {length : Byte} {slots : List Byte} {m : SlotMap}
    (h : slotMap? length slots = some m) : 2 ≤ m.length ∧ m.length ≤ 16 := by
  unfold slotMap? at h
  split at h
  · obtain ⟨v, -, rfl⟩ := Option.map_eq_some_iff.mp h
    assumption
  · cases h

theorem State.noKeys_of_empty (entries : s.tableEmpty = true) (keys : s.noTransportKeys = true) :
    s.noKeys :=
  ⟨fun i => by rw [State.tableEmpty_iff.mp entries i]; rfl, State.noTransportKeys_iff.mp keys⟩

end Serving

/-- Each command by its owner's meaning. -/
theorem serve_serving {s : State} {c : Command} {draw : Block} {r : Served}
    (h : s.serve c draw = some r) : s.Serving c r.state := by
  cases c <;> simp only [State.serve, Option.some.injEq, reduceCtorEq] at h <;> subst h
  case status | readTamperRecord | readMesh => exact .unchanged
  case challenge =>
    unfold State.serveChallenge
    split <;> exact .drawn _ _
  case readEvents => exact .eventsRead
  case logoff =>
    unfold State.serveLogoff
    split
    · exact .unchanged
    · split
      · exact .leaves _ ‹_›
      · exact .unchanged
  case cancelCeremony =>
    unfold State.serveCancel
    split
    · exact .cancels
    · exact .unchanged
  case zeroize => exact .zeroizes
  case measureNow => exact .measures
  case readEntry | readChannel =>
    simp only [State.serveReadEntry, State.serveReadChannel]
    split <;> exact .unchanged
  case setEventEnables =>
    unfold State.serveEnables
    split
    · exact .enables _
    · exact .unchanged
  case grantAllowance =>
    refine .of_ite fun _ => .of_onEntry (fun e e' h keyless => ?_) (fun e' h => nomatch h)
    rw [Entry.grant_of_not_held keyless] at h
    cases h
  case revokeAllowance => exact .of_onEntry_setData
  case setRights => exact .of_onEntry_setData
  case setLabel =>
    unfold State.serveLabel
    split
    · exact .of_onEntry_setData
    · exact .unchanged
  case suspendEntry =>
    refine .of_onEntry (fun e e' h keyless => ?_) (fun e' h => nomatch h)
    cases e with
    | held => nomatch keyless
    | empty | faulted => nomatch h
  case resumeEntry =>
    refine .of_onEntry (fun e e' h keyless => ?_) (fun e' h => nomatch h)
    cases e with
    | held => nomatch keyless
    | empty | faulted => nomatch h
  case retireEntry =>
    refine .of_onEntry (fun e e' h keyless => ?_) (fun e' h => nomatch h)
    cases e <;> cases h <;> rfl
  case dropPrevious =>
    refine .of_onEntry (fun e e' h keyless => ?_) (fun e' h => nomatch h)
    cases e with
    | held => nomatch keyless
    | empty | faulted => nomatch h
  case setAllowanceThreshold => exact .threshold _
  case channelOpen => exact .of_onChannel fun _ _ => .opened
  case channelHalt => exact .of_onChannel fun _ _ => .halted
  case channelResume => exact .of_onChannel fun _ _ => .resumed
  case channelClose => exact .of_onChannel fun _ _ h => Option.some.inj h ▸ .closed
  case setChannel =>
    refine .of_ite fun good => .of_onChannel fun _ _ h => Option.some.inj h ▸ ?_
    exact .configured _ (by omega) (by omega)
  case flushChannel =>
    unfold State.serveFlush
    split
    · exact .unchanged
    · exact .flushed _
  case writeSlotMap =>
    unfold State.serveSlotMap
    split
    · exact .unchanged
    · next m read => exact .slotMap m (slotMap?_length read).1 (slotMap?_length read).2
  case setAssemblyTimeout => exact .of_ite fun good => .timeout _ (by omega) (by omega)
  case arm =>
    unfold State.serveArm
    split
    · exact .arms ‹_›
    all_goals exact .unchanged
  case disarm =>
    unfold State.serveDisarm
    split
    · next h => exact .disarms h.1 (State.noKeys_of_empty h.2.1 h.2.2)
    · exact .unchanged
  case setMesh => exact .of_ite fun _ => .of_ite fun settled => .mesh _ _ _ _ settled
  case ackTrip =>
    unfold State.serveAck
    split
    · exact .acknowledges ‹_›
    all_goals exact .unchanged
  case setSupply =>
    unfold State.serveSupply
    split
    · exact .supply _
    all_goals exact .unchanged
  case enrolCustodian =>
    unfold State.serveEnrol
    split
    · exact .unchanged
    · refine .of_ite fun _ => ?_
      split
      · exact .enrols _ _ ‹_›
      all_goals exact .unchanged
  case removeCustodian =>
    unfold State.serveRemove
    split
    · exact .unchanged
    · split
      · exact .unchanged
      all_goals exact .of_ite fun absent => .removes _ absent
  case unlockCustodian =>
    unfold State.serveUnlock
    split
    · exact .unchanged
    · split
      · exact .unlocks _ ‹_›
      all_goals exact .unchanged
  case setWindow => exact .of_ite fun _ => .windowLength _

/-! ## The port (R91, R92, R93) -/

section Port

variable {s : State} {c : Command} {draw : Block}

/-- A command in progress is served, ends with the status decided at its take, or goes on. -/
theorem State.completeCommand_cases (draw : Block) (s : State) :
    s.completeCommand draw = s ∨
      (∃ c r, s.ci.port = .executing c ∧ s.serve c draw = some r ∧
        s.completeCommand draw = r.state.finish r.status r.body) ∨
      ∃ c status, s.ci.port = .executing c ∧ s.serve c draw = none ∧ s.ci.decided = some status ∧
        s.completeCommand draw = s.finish status [] := by
  unfold State.completeCommand
  split
  · next c port =>
    split
    · next r serves => exact .inr (.inl ⟨c, r, port, serves, rfl⟩)
    · next status serves decided => exact .inr (.inr ⟨c, status, port, serves, decided, rfl⟩)
    · exact .inl rfl
  all_goals exact .inl rfl

/-- A write transaction that is not acknowledged, or of no bytes, changes nothing; another is refused
as a frame, or spells a command. -/
theorem State.portWriteAt_cases (w : WriteTransaction) (s : State) :
    s.portWriteAt w = s ∨ ∃ reply, s.ci.port = .ready reply ∧
      ((∃ status, s.portWriteAt w = s.finish status []) ∨
        ∃ c, readFrame w.bytes = .command c ∧ s.portWriteAt w = s.takeCommand c) := by
  unfold State.portWriteAt State.portWrite
  split
  · split
    · next reply port =>
      split
      · exact .inl rfl
      · exact .inr ⟨reply, port, .inl ⟨_, rfl⟩⟩
      · exact .inr ⟨reply, port, .inl ⟨_, rfl⟩⟩
      · exact .inr ⟨reply, port, .inr ⟨_, ‹_›, rfl⟩⟩
    all_goals exact .inl rfl
  · exact .inl rfl

/-- A command is refused by the checks of R92, or accepted and started. -/
theorem State.takeCommand_cases (c : Command) (s : State) :
    (∃ status, s.takeRefusal c = some status ∧ s.takeCommand c = s.finish status []) ∨
      (s.takeRefusal c = none ∧ s.takeCommand c = (s.accept c).startCommand c) := by
  unfold State.takeCommand
  split
  · exact .inl ⟨_, ‹_›, rfl⟩
  · exact .inr ⟨‹_›, rfl⟩

/-- A command without checks of its own at the take waits for its completion. -/
theorem State.startCommand_of_waits (decides : c.decidesAtTake = false) (acts : c.actsAtTake = false) :
    s.startCommand c = s := by
  cases c with
  | zeroize | measureNow => nomatch acts
  | respond | enterComponent | commit | openCeremony => nomatch decides
  | _ => rfl

/-- MEASURE_NOW is served in the step of its take (R154). -/
theorem State.startCommand_measureNow (port : s.ci.port = .executing .measureNow) :
    s.startCommand .measureNow = s.serveMeasure.state.finish .done [] := by
  simp only [State.startCommand, Command.actsAtTake, if_true, State.completeCommand, port,
    State.serve]
  rfl

end Port

/-! ## What the console's operations leave (R89 to R93) -/

/-- All but the console and the Cipher Core stand. -/
structure State.ConsoleOnly (s t : State) : Prop where
  kt : t.kt = s.kt
  su : t.su = s.su
  channels : t.channels = s.channels
  lhi : t.lhi = s.lhi
  tm : t.tm = s.tm
  ess : t.ess = s.ess
  ec : t.ec = s.ec
  pwr : t.pwr = s.pwr
  pins : t.pins = s.pins
  pending : t.pending = s.pending

namespace State.ConsoleOnly

variable {s t : State} {status : ConsoleStatus} {body : List Byte} {c : Command} {e : Event}

theorem refl (s : State) : s.ConsoleOnly s :=
  ⟨rfl, rfl, rfl, rfl, rfl, rfl, rfl, rfl, rfl, rfl⟩

theorem finish : s.ConsoleOnly (s.finish status body) := by constructor <;> simp

theorem accept : s.ConsoleOnly (s.accept c) := by constructor <;> simp

theorem raiseEvent : s.ConsoleOnly (s.raiseEvent e) := by constructor <;> simp

theorem raiseIf {b : Bool} : s.ConsoleOnly (s.raiseIf b e) := by constructor <;> simp

theorem windowAtZero : s.ConsoleOnly s.windowAtZero := by constructor <;> simp

theorem tickWindow : s.ConsoleOnly s.tickWindow := by constructor <;> simp

theorem expireChallenge : s.ConsoleOnly s.expireChallenge := by constructor <;> simp

theorem withCi {x : CustodianInterface} : s.ConsoleOnly (s.withCi x) := by constructor <;> simp

theorem withCc {x : CipherCore} : s.ConsoleOnly (s.withCc x) := by constructor <;> simp

theorem withCec {x : Option Ceremony} : s.ConsoleOnly (s.withCec x) := by constructor <;> simp

theorem completeRespond {x : Block} : s.ConsoleOnly (s.completeRespond x) := by
  constructor <;> simp

theorem completeComponent {x : Key} {v : CheckValue} : s.ConsoleOnly (s.completeComponent x v) := by
  constructor <;> simp

/-- A command that makes checks of its own changes nothing else at its take. -/
theorem startCommand (decides : c.decidesAtTake = true) : s.ConsoleOnly (s.startCommand c) := by
  cases c with
  | respond | enterComponent | commit | openCeremony =>
    simp only [State.startCommand]
    constructor <;> simp
  | _ => nomatch decides

end State.ConsoleOnly

/-! ## Laws that no console operation can break -/

section Keeps

variable {P : State → Prop} {s : State} (blind : ∀ {s t : State}, s.ConsoleOnly t → P s → P t)

include blind

/-- A law that reads nothing of the console is kept by the completion of a command, if serving the
command in progress keeps it. -/
theorem completeCommand_keeps
    (serves : ∀ {c t}, s.ci.port = .executing c → s.Serving c t → P s → P t) (draw : Block)
    (h : P s) : P (s.completeCommand draw) := by
  rcases s.completeCommand_cases draw with e | ⟨c, r, port, served, e⟩ | ⟨c, status, -, -, -, e⟩
  · rwa [e]
  · rw [e]
    exact blind .finish (serves port (serve_serving served) h)
  · rw [e]
    exact blind .finish h

variable (acts : ∀ {s t : State} {c : Command}, c.actsAtTake = true → s.Serving c t → P s → P t)

include acts

/-- Only ZEROIZE and MEASURE_NOW are served at the take (R154, R172). -/
theorem takeCommand_keeps (c : Command) (h : P s) : P (s.takeCommand c) := by
  rcases s.takeCommand_cases c with ⟨status, -, e⟩ | ⟨-, e⟩
  · rw [e]
    exact blind .finish h
  rw [e]
  have accepted : P (s.accept c) := blind .accept h
  cases decides : c.decidesAtTake with
  | true => exact blind (.startCommand decides) accepted
  | false =>
    cases served : c.actsAtTake with
    | false => rwa [State.startCommand_of_waits decides served]
    | true =>
      cases c with
      | zeroize => exact acts rfl .zeroizes accepted
      | measureNow =>
        rw [State.startCommand_measureNow rfl]
        exact blind .finish (acts rfl .measures accepted)
      | _ => nomatch served

theorem portWriteAt_keeps (w : WriteTransaction) (h : P s) : P (s.portWriteAt w) := by
  rcases s.portWriteAt_cases w with e | ⟨reply, -, ⟨status, e⟩ | ⟨c, -, e⟩⟩
  · rwa [e]
  · rw [e]
    exact blind .finish h
  · rw [e]
    exact takeCommand_keeps blind acts c h

end Keeps

end Sys2Proof.Machine

/-! What every command keeps of the queue and of the entries, which command can stop with a fault, and
what the state after a cold start holds. -/

namespace Sys2Proof.Machine

/-! ## The queue (assumption log 1) -/

theorem State.Serving.pending {s t : State} {c : Command} (h : s.Serving c t) :
    t.pending = s.pending := by
  cases h <;> simp

/-- What a service start can give: an answer at once, a refusal, or a DERIVE bound (R27, R31). -/
theorem State.startService_cases {s t : State} {c : ChannelNo} {r : Request}
    (h : s.startService c r = .next t) :
    (∃ reply, t = s.reply c reply) ∨ (∃ i status, t = s.failRequest c r i status) ∨
      ∃ body bound, r.body = .derive body ∧ (∃ g, (s.channel c).transport = some g) ∧
        t = s.bindDerive c r.tag body bound := by
  unfold State.startService at h
  split at h
  · exact .inl ⟨_, (Host.Outcome.next.inj h).symm⟩
  · have probed := Host.Outcome.next.inj h
    unfold State.startProbe at probed
    split at probed
    · exact .inr (.inl ⟨_, _, probed.symm⟩)
    · exact .inl ⟨_, probed.symm⟩
  · next body derive =>
    unfold State.startDerive at h
    dsimp only at h
    split at h
    · exact .inr (.inl ⟨_, _, (Host.Outcome.next.inj h).symm⟩)
    · split at h
      · exact .inr (.inl ⟨_, _, (Host.Outcome.next.inj h).symm⟩)
      · split at h
        · cases h
        · next g held =>
          exact .inr (.inr ⟨_, _, derive, ⟨g, held⟩, (Host.Outcome.next.inj h).symm⟩)

/-- Settles O2: each arm by the lemmas on what its operations leave. -/
theorem execKeepsTheQueue : Obligations.ExecKeepsTheQueue := by
  intro c s t h
  have blind {q} {s t : State} (o : s.ConsoleOnly t) (h : s.pending = q) : t.pending = q :=
    o.pending.trans h
  have serves {q} {s t : State} {c : Command} (served : s.Serving c t) (h : s.pending = q) :
      t.pending = q := served.pending.trans h
  cases exec_arm h with
  | row =>
    exact completeCommand_keeps blind (fun _ => serves) _
      (takeCommand_keeps blind (fun _ => serves) _ rfl)
  | write => exact portWriteAt_keeps blind (fun _ => serves) _ rfl
  | completes => exact completeCommand_keeps blind (fun _ => serves) _ rfl
  | selects _ _ _ begins =>
    rcases State.startService_cases begins with
      ⟨_, rfl⟩ | ⟨_, _, rfl⟩ | ⟨_, _, -, -, rfl⟩ <;> simp
  | _ => simp [State.unfed]

/-! ## Faults (R54) -/

/-- With the key law of the channels a service start answers a next state. -/
theorem State.startService_next {s : State} {c : ChannelNo} (r : Request)
    (key : (s.channel c).transport ≠ none) : ∃ t, s.startService c r = .next t := by
  obtain ⟨g, held⟩ := Option.ne_none_iff_exists'.mp key
  unfold State.startService State.startDerive
  simp only [held]
  split
  · exact ⟨_, rfl⟩
  · exact ⟨_, rfl⟩
  · split
    · exact ⟨_, rfl⟩
    · split <;> exact ⟨_, rfl⟩

theorem State.selected_eligible {s : State} {c : ChannelNo} (h : s.selected = some c) :
    (s.channel c).state = .opened ∧ (s.channel c).requests ≠ [] := by
  have found := List.find?_some h
  simpa [Channel.eligible] using found

theorem execSuSelection_next {s : State} (law : s.ChannelKeyLaw) :
    ∃ t, execSuSelection s = .next t := by
  unfold execSuSelection
  split
  · next c free next =>
    split
    · next r rest head =>
      refine State.startService_next r ?_
      have opened := (State.selected_eligible next).1
      exact (State.channel_setChannel_self c _ s).symm ▸ law c (by simp [opened])
    · exact ⟨_, rfl⟩
  all_goals exact ⟨_, rfl⟩

/-- Settles O3: SU_SELECTION alone can stop, at a channel that the law gives a key. -/
theorem everyCommandAnswersNext : Obligations.EveryCommandAnswersNext := by
  intro c s law
  cases c with
  | suSelection => exact execSuSelection_next law
  | frameStart | earlyFrameSync | slotEnd | assemblyTimeout | highwayRunning | ccClaimComplete
  | batterySampleLatch | conversionComplete | holdConversionStart | eraseEntry =>
    simp only [exec, execFrameStart, execEarlyFrameSync, execSlotEnd, execAssemblyTimeout,
      execHighwayRunning, execCcClaimComplete, execBatterySampleLatch, execConversionComplete,
      execHoldConversionStart, execEraseEntry]
    split <;> exact ⟨_, rfl⟩
  | slotWordFixed =>
    simp only [exec, execSlotWordFixed]
    split
    · split <;> exact ⟨_, rfl⟩
    · exact ⟨_, rfl⟩
  | openCeremony =>
    simp only [exec, execOpenCeremony]
    split
    · exact ⟨_, rfl⟩
    · split <;> exact ⟨_, rfl⟩
  | windowExpiry | emzFallingEdge | vddBelowCriterion | vddAtCriterion | vddAboveReturnLevel
  | vddAtReturnLevel | lowTimerExpiry | returnTimerExpiry | coldStart =>
    simp only [exec, execWindowExpiry, execEmzFallingEdge, execVddBelowCriterion,
      execVddAtCriterion, execVddAboveReturnLevel, execVddAtReturnLevel, execLowTimerExpiry,
      execReturnTimerExpiry, execColdStart]
    split <;> exact ⟨_, rfl⟩
  | _ => exact ⟨_, rfl⟩

/-! ## A step (assumption log 1) -/

/-- A law that the tick and every command keep, and that reads nothing of the queue, is kept by every
step. -/
theorem Kept.of_exec {law : State → Prop} (queue : ∀ s q, law s → law (s.withPending q))
    (tick : ∀ s, law s → law s.tick) (arm : ∀ {s i t}, s.Arm i t → law s → law t) : Kept law := by
  intro s t h next
  unfold step at next
  split at next
  · exact Host.Outcome.next.inj next ▸ tick s h
  · exact arm (exec_arm next) (queue s _ h)

/-! ## Entries (R6, R15, R16) -/

section Entries

variable {e e' : Entry}

theorem Entry.Ranged.setData {d : EntryMeta} (h : e.Ranged) (allowance : d.allowance ≤ 16777215)
    (used : d.used ≤ 4294967295) : (e.setData d).Ranged := by
  cases e with
  | empty => exact h
  | held _ suspended current previous =>
    refine ⟨allowance, used, fun d' b g p same => ?_⟩
    cases same
    exact h.order _ _ _ _ rfl
  | faulted => exact ⟨allowance, used, nofun⟩

theorem Entry.data?_le (h : e.Ranged) {d : EntryMeta} (data : e.data? = some d) :
    d.allowance ≤ 16777215 ∧ d.used ≤ 4294967295 := by
  have allowance := h.allowance
  have used := h.used
  simp only [Entry.allowance, Entry.used, data] at allowance used
  exact ⟨allowance, used⟩

theorem Entry.Ranged.empty : Entry.empty.Ranged :=
  ⟨by decide, by decide, nofun⟩

/-- Every change of an entry keeps its ranges. -/
theorem Entry.Change.ranged (change : e.Change e') (h : e.Ranged) : e'.Ranged := by
  cases change with
  | same => exact h
  | emptied => exact .empty
  | granted k _ granted =>
    cases e <;> cases granted
    refine ⟨?_, h.used, fun _ _ _ _ same => ?_⟩
    · simp only [Entry.allowance, Entry.data?, Config.allowanceMax]
      omega
    · cases same
      exact h.order _ _ _ _ rfl
  | revoked _ revoked =>
    obtain ⟨d, data, rfl⟩ := Option.map_eq_some_iff.mp revoked
    exact h.setData (Nat.zero_le _) (e.data?_le h data).2
  | rights r _ set =>
    obtain ⟨d, data, rfl⟩ := Option.map_eq_some_iff.mp set
    exact h.setData (e.data?_le h data).1 (e.data?_le h data).2
  | label l _ set =>
    obtain ⟨d, data, rfl⟩ := Option.map_eq_some_iff.mp set
    exact h.setData (e.data?_le h data).1 (e.data?_le h data).2
  | suspended _ suspended =>
    unfold Entry.suspend at suspended
    split at suspended <;> cases suspended
    exact ⟨h.allowance, h.used, fun _ _ _ _ same => by cases same; exact h.order _ _ _ _ rfl⟩
  | resumed _ resumed =>
    unfold Entry.resume at resumed
    split at resumed <;> cases resumed
    exact ⟨h.allowance, h.used, fun _ _ _ _ same => by cases same; exact h.order _ _ _ _ rfl⟩
  | dropped _ dropped =>
    unfold Entry.dropPrevious at dropped
    split at dropped <;> cases dropped
    exact ⟨h.allowance, h.used, nofun⟩
  | charged k =>
    unfold Entry.charge
    split
    · exact h
    · next d data =>
      have bounds := e.data?_le h data
      refine h.setData ((Nat.sub_le _ _).trans bounds.1) ?_
      simp only [Config.countMax]
      omega
  | newKey i l r g now _ installed =>
    cases e <;> cases installed <;> exact ⟨Nat.zero_le _, Nat.zero_le _, nofun⟩
  | rolledOver i g now _ installed =>
    unfold Entry.installRollover at installed
    split at installed
    · split at installed <;> cases installed
      next greater =>
      exact ⟨h.allowance, h.used, fun _ _ _ _ same => by cases same; exact greater.2⟩
    all_goals cases installed
  | checked a b =>
    unfold Entry.selfCheck
    split
    · split
      · exact ⟨h.allowance, h.used, nofun⟩
      · split
        · exact h
        · split
          · exact ⟨h.allowance, h.used, nofun⟩
          · exact h
    · exact h
    · exact h

theorem Entry.used_setData {d : EntryMeta} (data : e.data? ≠ none) : (e.setData d).used = d.used := by
  cases e with
  | empty => exact absurd rfl data
  | held | faulted => rfl

theorem Entry.used_of_data {d : EntryMeta} (data : e.data? = some d) : e.used = d.used := by
  simp only [Entry.used, data]

/-- A change lowers no used count, but where the entry becomes EMPTY or is filled anew (R16). -/
theorem Entry.Change.used_le (change : e.Change e') (h : e.Ranged) :
    e.used ≤ e'.used ∨ e' = .empty ∨ (e.isHeld = false ∧ e'.isHeld = true ∧ e'.used = 0) := by
  cases change with
  | same => exact .inl le_rfl
  | emptied => exact .inr (.inl rfl)
  | granted k _ granted =>
    cases e <;> cases granted
    exact .inl le_rfl
  | revoked _ set | rights _ _ set | label _ _ set =>
    obtain ⟨d, data, rfl⟩ := Option.map_eq_some_iff.mp set
    rw [Entry.used_setData (by simp [data]), Entry.used_of_data data]
    exact .inl le_rfl
  | suspended _ changed =>
    unfold Entry.suspend at changed
    split at changed <;> cases changed
    exact .inl le_rfl
  | resumed _ changed =>
    unfold Entry.resume at changed
    split at changed <;> cases changed
    exact .inl le_rfl
  | dropped _ changed =>
    unfold Entry.dropPrevious at changed
    split at changed <;> cases changed
    exact .inl le_rfl
  | charged k =>
    unfold Entry.charge
    split
    · exact .inl le_rfl
    · next d data =>
      have bound := (e.data?_le h data).2
      rw [Entry.used_setData (by simp [data]), Entry.used_of_data data]
      simp only [Config.countMax]
      omega
  | newKey i l r g now _ installed =>
    cases e <;> cases installed <;> exact .inr (.inr ⟨rfl, rfl, rfl⟩)
  | rolledOver i g now _ installed =>
    unfold Entry.installRollover at installed
    split at installed
    · split at installed <;> cases installed
      exact .inl le_rfl
    all_goals cases installed
  | checked a b =>
    unfold Entry.selfCheck
    repeat' split
    all_goals exact .inl le_rfl

end Entries

/-- Settles O9: `exec_entry` names each change of an entry, and each keeps the ranges. -/
theorem entriesStayInRange : Obligations.EntriesStayInRange := by
  intro s t law next
  unfold step at next
  split at next
  · exact Host.Outcome.next.inj next ▸ law
  · exact fun i => (exec_entry _ _ _ next i).ranged (law i)

/-- Settles O13: `exec_entry` names each change of an entry, and none lowers the used count. -/
theorem usedCountNeverFalls : Obligations.UsedCountNeverFalls := by
  intro c s t i law next
  exact (exec_entry c s t next i).used_le (law i)

/-! ## The state after a cold start (R189) -/

theorem State.cold_channel (pins : Pins) (c : ChannelNo) :
    (State.cold pins).channel c = Channel.cold := by
  simp [State.channel, State.cold]

theorem State.cold_custodian (pins : Pins) (c : CustodianNo) :
    (State.cold pins).custodian c = Custodian.vacant := by
  simp [State.custodian, State.cold]

/-- Settles O4: the tables place by place, every other item as it is written. -/
theorem resetIsTheColdStart : Obligations.ResetIsTheColdStart := by
  refine ⟨fun i => State.cold_entry _ [] i, rfl, fun c => State.cold_channel _ c, rfl, rfl, rfl,
    fun c => State.cold_custodian _ c, rfl, rfl, rfl, rfl, rfl, rfl, rfl, rfl, rfl, rfl, rfl, rfl,
    rfl, rfl, rfl, rfl, fun m => ?_, rfl, rfl, rfl, rfl, rfl, rfl, rfl, rfl, rfl, rfl, rfl, rfl, rfl,
    rfl, rfl, rfl, rfl, rfl, rfl⟩
  cases m <;> rfl

section Cold

variable {pins : Pins}

theorem State.cold_noKeys : (State.cold pins).noKeys :=
  ⟨fun i => congrArg Entry.isHeld (State.cold_entry pins [] i),
    fun c => congrArg Channel.transport (State.cold_channel pins c)⟩

theorem State.cold_keyLaw : (State.cold pins).KeyLaw where
  armedOnly _ _ := State.cold_noKeys
  tripped erasing := absurd rfl erasing
  noTransport erasing := absurd rfl erasing
  passed := nofun
  waiting := nofun
  servedOnly erasing := absurd rfl erasing

theorem State.cold_channelKeyLaw : (State.cold pins).ChannelKeyLaw := fun c opened =>
  absurd (congrArg Channel.state (State.cold_channel pins c)) opened

theorem State.cold_countLaw : (State.cold pins).CountLaw := by
  constructor <;> intro c <;> simp [State.places, State.channelInService, State.cold_channel] <;>
    simp [State.cold, Channel.cold, Config.limitInitial]

theorem State.cold_entryLaw : (State.cold pins).EntryLaw := fun i =>
  (State.cold_entry pins [] i).symm ▸ .empty

theorem State.cold_presenceLaw : (State.cold pins).PresenceLaw where
  most := Nat.zero_le 3
  once := .nil
  enrolled := nofun
  window := by simp [State.cold]
  two opened := absurd rfl opened
  joins := nofun
  acted := nofun
  decided chosen := absurd rfl chosen
  checked := nofun
  claimed standing := absurd rfl standing
  off _ := .inl rfl

theorem State.cold_bandLaw : (State.cold pins).BandLaw := by
  constructor <;> exact ⟨nofun, Nat.zero_le 8192⟩

theorem State.cold_highwayLaw : (State.cold pins).HighwayLaw where
  position := nofun
  word := nofun
  received := ⟨fun h => absurd rfl h, nofun⟩
  sampled := nofun
  active := by simp [State.cold, SlotMap.cold]
  waiting := nofun
  enabling := nofun
  timeout := by simp [State.cold, Config.timeoutInitial]
  off _ := rfl

end Cold

/-- Settles O5: each law holds of a cold start, whatever the pins. -/
theorem resetMeetsEveryLaw : Obligations.ResetMeetsEveryLaw :=
  ⟨State.cold_keyLaw, State.cold_channelKeyLaw, State.cold_countLaw, State.cold_entryLaw,
    State.cold_presenceLaw, State.cold_bandLaw, State.cold_highwayLaw⟩

end Sys2Proof.Machine

/-! What the operations that reach the whole part come to, for a law that their parts keep: triggers,
sensing, hold entry and restart, the erase pass, the results of a claim. `State.Closed.arm` puts them
together for a law that reads nothing of the console. -/

namespace Sys2Proof.Machine

/-! ## Triggers (R170, R177) -/

section Trigger

variable {P : State → Prop} {s : State}
  (erases : ∀ {s : State} {cause}, P s → P (s.eraseStart cause))
  (noted : ∀ {s : State} {x : BitVec 6}, P s →
    P (s.withEc { s.ec with record := { s.ec.record with causes := x } }))

include erases noted

theorem trigger_keeps (cause : Cause) (h : P s) : P (s.trigger cause) := by
  unfold State.trigger
  split
  · exact erases h
  · exact noted h

theorem judgeInHold_keeps (x : Option BatteryResult) (h : P s) : P (s.judgeInHold x) := by
  unfold State.judgeInHold
  split
  · split
    · exact trigger_keeps erases noted .battery h
    · exact h
  · exact h

end Trigger

/-! ## Sensing (R144 to R148, R159) -/

/-- All but the monitor, the sensing block and the flags stands, and the monitor's state with it unless
it was LEARNING. -/
structure State.SensingOnly (s t : State) : Prop where
  kt : t.kt = s.kt
  su : t.su = s.su
  cc : t.cc = s.cc
  channels : t.channels = s.channels
  lhi : t.lhi = s.lhi
  ci : t.ci = { s.ci with flags := t.ci.flags }
  cec : t.cec = s.cec
  ec : t.ec = s.ec
  pwr : t.pwr = s.pwr
  pending : t.pending = s.pending
  state : t.tm.state = s.tm.state ∨ s.tm.state = .learning

namespace State.SensingOnly

variable {s t u : State}

theorem refl (s : State) : s.SensingOnly s :=
  ⟨rfl, rfl, rfl, rfl, rfl, rfl, rfl, rfl, rfl, rfl, .inl rfl⟩

theorem withTm {x : TamperMonitor} (state : x.state = s.tm.state ∨ s.tm.state = .learning) :
    s.SensingOnly (s.withTm x) :=
  ⟨rfl, rfl, rfl, rfl, rfl, rfl, rfl, rfl, rfl, rfl, state⟩

theorem withEss {x : SupplySensing} : s.SensingOnly (s.withEss x) :=
  ⟨rfl, rfl, rfl, rfl, rfl, rfl, rfl, rfl, rfl, rfl, .inl rfl⟩

theorem raiseEvent (h : s.SensingOnly t) (e : Event) : s.SensingOnly (t.raiseEvent e) where
  kt := h.kt
  su := h.su
  cc := h.cc
  channels := h.channels
  lhi := h.lhi
  ci := by
    have same := h.ci
    simp only [State.raiseEvent, State.withCi_ci]
    rw [same]
  cec := h.cec
  ec := h.ec
  pwr := h.pwr
  pending := h.pending
  state := h.state

theorem failLearning (learning : s.tm.state = .learning) : s.SensingOnly s.failLearning :=
  (withTm (.inr learning)).raiseEvent .armResult

theorem learnReading (learning : s.tm.state = .learning) (m : Mesh) (x : Nat) :
    s.SensingOnly (s.learnReading m x) := by
  unfold State.learnReading
  split
  · exact refl s
  · split
    · exact withTm (.inr learning)
    · dsimp only
      split
      · exact failLearning learning
      · split
        · exact (withTm (.inr learning)).raiseEvent .armResult
        · exact withTm (.inr learning)

end State.SensingOnly

theorem TamperMonitor.afterConversion_state (m : Mesh) (tm : TamperMonitor) :
    (tm.afterConversion m).state = tm.state := by
  unfold TamperMonitor.afterConversion
  split <;> rfl

/-- The monitor with a reading recorded and the next conversion begun. -/
theorem TamperMonitor.recorded_state (m : Mesh) (x : Nat) (tm : TamperMonitor) :
    ((tm.record m x).afterConversion m).state = tm.state :=
  (TamperMonitor.afterConversion_state m _).trans (TamperMonitor.setMesh_state m _ tm)

section Sensing

variable {P : State → Prop} {s : State}
  (sensing : ∀ {s t : State}, s.SensingOnly t → P s → P t)
  (triggers : ∀ {s : State} (cause : Cause), P s → P (s.trigger cause))

include sensing triggers

theorem lidReport_keeps (h : P s) : P s.lidReport := by
  unfold State.lidReport
  split
  · exact triggers .lid h
  · exact sensing (.failLearning ‹_›) h
  all_goals exact h

theorem completeConversion_keeps (cv : Conversion) (crossing : Nat) (h : P s) :
    P (s.completeConversion cv crossing) := by
  unfold State.completeConversion
  extract_lets reading
  have recorded : P (s.withTm ((s.tm.record cv.mesh reading).afterConversion cv.mesh)) :=
    sensing (.withTm (.inl (TamperMonitor.recorded_state _ _ _))) h
  generalize s.withTm ((s.tm.record cv.mesh reading).afterConversion cv.mesh) = u at recorded
  unfold State.takeReading
  split
  · unfold State.evaluate
    dsimp only
    generalize judge _ _ _ _ = v
    have kept : u.SensingOnly (u.withTm (u.tm.setMesh cv.mesh
        ((u.tm.mesh cv.mesh).judged v u.tm.drift u.tm.window reading))) :=
      .withTm (.inl (TamperMonitor.setMesh_state _ _ _))
    cases v with
    | cut => exact triggers _ (sensing kept recorded)
    | strike trips =>
      have struck := sensing (kept.raiseEvent .tamperStrike) recorded
      cases trips with
      | true => exact triggers _ struck
      | false => exact struck
    | within => exact sensing kept recorded
  · exact sensing (.learnReading ‹_› _ _) recorded
  all_goals exact recorded

end Sensing

/-! ## Restart (R186, R187, R188) -/

theorem State.checkJob_claimant {s : State} {p : CheckPosition} {job : Job}
    (h : s.checkJob p = some job) : job.claimant = .pwr := by
  unfold State.checkJob at h
  split at h
  · split at h
    · cases h
      rfl
    all_goals cases h
  · obtain ⟨g, -, rfl⟩ := Option.map_eq_some_iff.mp h
    rfl

theorem State.nextCheck_job {s : State} {start : Nat} {p : CheckPosition} {job : Job}
    (h : s.nextCheck start = some (p, job)) : s.checkJob p = some job := by
  obtain ⟨n, -, found⟩ := List.exists_of_findSome?_eq_some h
  obtain ⟨q, -, formed⟩ := Option.bind_eq_some_iff.mp found
  obtain ⟨job', checked, same⟩ := Option.map_eq_some_iff.mp formed
  cases same
  exact checked

/-- The state with a self-check visit begun (R188). -/
def State.visit (p : CheckPosition) (cold : Bool) (job : Job) (s : State) : State :=
  (s.withPwr { s.pwr with supply := .restarting (.checking p) cold }).presentClaim job

/-- The self-check goes on with a claim of the Power Controller, or the restart ends (R188). -/
theorem State.selfCheckFrom_cases (start : Nat) (cold : Bool) (s : State) :
    (∃ p job, s.nextCheck start = some (p, job) ∧ job.claimant = .pwr ∧
      s.selfCheckFrom start cold = s.visit p cold job) ∨
      (s.nextCheck start = none ∧ s.selfCheckFrom start cold = s.finishRestart cold) := by
  unfold State.selfCheckFrom
  split
  · next p job next =>
    exact .inl ⟨p, job, next, State.checkJob_claimant (State.nextCheck_job next), rfl⟩
  · next none => exact .inr ⟨none, rfl⟩

section Restart

variable {P : State → Prop} {s : State}
  (visits : ∀ {s : State} {p cold job}, job.claimant = .pwr → s.pwr.supply ≠ .normal → P s →
    P (s.visit p cold job))
  (finishes : ∀ {s : State} {cold}, s.pwr.supply ≠ .normal → P s → P (s.finishRestart cold))

include visits finishes

theorem selfCheckFrom_keeps (start : Nat) (cold : Bool) (restarting : s.pwr.supply ≠ .normal)
    (h : P s) : P (s.selfCheckFrom start cold) := by
  rcases s.selfCheckFrom_cases start cold with ⟨p, job, -, claimant, e⟩ | ⟨-, e⟩
  · exact e ▸ visits claimant restarting h
  · exact e ▸ finishes restarting h

variable (counts : ∀ {s : State} {x : PowerController}, x.supply = s.pwr.supply →
    x.seconds = s.pwr.seconds → P s → P (s.withPwr x))

include counts

theorem continueRestart_keeps (cold : Bool) (restarting : s.pwr.supply ≠ .normal) (h : P s) :
    P (s.continueRestart cold) := by
  unfold State.continueRestart
  refine selfCheckFrom_keeps visits finishes 0 cold ?_ (counts ?_ ?_ h)
  · exact restarting
  · rfl
  · rfl

theorem resumeRestart_keeps (h : P s) : P s.resumeRestart := by
  unfold State.resumeRestart
  split
  · next supply =>
    split
    · exact h
    · exact continueRestart_keeps visits finishes counts _ (by simp [supply]) h
  · next supply => exact finishes (by simp [supply]) h
  all_goals exact h

theorem releaseReset_keeps (h : P s) : P s.releaseReset := by
  unfold State.releaseReset
  split
  · next supply =>
    split
    · exact h
    · exact continueRestart_keeps visits finishes counts _ (by simp [supply]) h
  all_goals exact h

variable (starts : ∀ {s : State}, P s → P s.initialise)

include starts

theorem beginRestart_keeps (h : P s) : P s.beginRestart :=
  resumeRestart_keeps visits finishes counts (starts h)

theorem requestRestart_keeps (h : P s) : P s.requestRestart := by
  unfold State.requestRestart
  split
  · refine counts ?_ ?_ h <;> rfl
  · exact beginRestart_keeps visits finishes counts starts h

theorem requestReset_keeps (h : P s) : P s.requestReset := by
  unfold State.requestReset
  split
  · split
    · refine counts ?_ ?_ h <;> rfl
    · exact beginRestart_keeps visits finishes counts starts h
  · exact h

variable (holds : ∀ {s : State}, P s → P s.holdEntry)

include holds

theorem actOnHeld_keeps (h : P s) : P s.actOnHeld := by
  unfold State.actOnHeld
  split
  · exact holds h
  · exact beginRestart_keeps visits finishes counts starts h
  · split
    · exact beginRestart_keeps visits finishes counts starts h
    · exact resumeRestart_keeps visits finishes counts h

end Restart

/-- A hold request enters hold, or is held (R183). -/
theorem requestHold_keeps {P : State → Prop} {s : State}
    (counts : ∀ {s : State} {x : PowerController}, x.supply = s.pwr.supply →
      x.seconds = s.pwr.seconds → P s → P (s.withPwr x))
    (holds : ∀ {s : State}, P s → P s.holdEntry) (h : P s) : P s.requestHold := by
  unfold State.requestHold
  split
  · refine counts ?_ ?_ h <;> rfl
  · exact holds h

/-- The state that hold entry reaches before it judges the last battery result (R185). -/
def State.holdLost (s : State) : State :=
  { s.loseWork .off with
    tm := s.tm.holdEntry
    ess := s.ess.holdEntry s.pins.vdd
    pwr := { s.pwr with supply := .hold, held := .none, resetHeld := false } }

theorem State.holdEntry_eq (s : State) :
    s.holdEntry = s.holdLost.judgeInHold s.holdLost.ess.result :=
  rfl

/-! ## The main supply (R162, R163) -/

theorem PowerController.withdraw_keeps (kind : HeldRequest) (p : PowerController) :
    (p.withdraw kind).supply = p.supply ∧ (p.withdraw kind).seconds = p.seconds := by
  unfold PowerController.withdraw
  split <;> exact ⟨rfl, rfl⟩

/-- The low timer moves, and a hold request may be withdrawn (R162). -/
theorem State.lowTimerFollows_eq (vdd : Nat) (s : State) :
    ∃ e p, s.lowTimerFollows vdd = (s.withEss e).withPwr p ∧
      p.supply = s.pwr.supply ∧ p.seconds = s.pwr.seconds := by
  unfold State.lowTimerFollows
  split
  · split
    · exact ⟨{ s.ess with lowTimer := .running 0 }, s.pwr, rfl, rfl, rfl⟩
    all_goals exact ⟨s.ess, s.pwr, rfl, rfl, rfl⟩
  · refine ⟨_, _, rfl, ?_⟩
    split
    · exact PowerController.withdraw_keeps _ _
    · exact ⟨rfl, rfl⟩

/-- The return timer moves, and a restart request may be withdrawn (R163). -/
theorem State.returnTimerFollows_eq (vdd : Nat) (s : State) :
    ∃ e p, s.returnTimerFollows vdd = (s.withEss e).withPwr p ∧
      p.supply = s.pwr.supply ∧ p.seconds = s.pwr.seconds := by
  unfold State.returnTimerFollows
  split
  · split
    · exact ⟨{ s.ess with returnTimer := .running 0 }, s.pwr, rfl, rfl, rfl⟩
    all_goals exact ⟨s.ess, s.pwr, rfl, rfl, rfl⟩
  · refine ⟨_, _, rfl, ?_⟩
    split
    · exact PowerController.withdraw_keeps _ _
    · exact ⟨rfl, rfl⟩

/-- A level of VDD moves a timer of the sensing block, and may withdraw a held request. -/
theorem State.vddMoves_eq (pins : SupplyPins) (s : State) :
    ∃ e p, s.vddMoves pins =
      ((s.withPins { s.pins with vdd := pins.vdd, adr := pins.adr }).withEss e).withPwr p ∧
        p.supply = s.pwr.supply ∧ p.seconds = s.pwr.seconds := by
  unfold State.vddMoves
  dsimp only
  split
  · exact State.lowTimerFollows_eq _ _
  · exact State.lowTimerFollows_eq _ _
  · exact State.returnTimerFollows_eq _ _

/-! ## Claims and requests (R30, R120) -/

/-- A refused request is answered, and a rights violation reported (R30, R31). -/
theorem State.failRequest_consoleOnly (c : ChannelNo) (r : Request) (i : EntryIndex)
    (status : ReplyStatus) (s : State) :
    (s.reply c (r.answer status)).ConsoleOnly (s.failRequest c r i status) := by
  unfold State.failRequest
  dsimp only
  split <;> constructor <;> rfl

/-- A COMMIT that no check fails finds the monitor ARMED (R120, check 4). -/
theorem State.armed_of_commitFailure {s : State} {x : Ceremony} {check expected : CheckValue}
    (passes : s.commitFailure x check expected = none) : s.tm.state = .armed := by
  unfold State.commitFailure at passes
  split_ifs at passes with _ _ _ other
  exact not_not.mp other

/-! ## A law of every step, part by part -/

/-- The parts of the commands that a law is to be kept by, but for the console's commands, the service
start and the end of a claim. -/
structure State.Plain (P : State → Prop) : Prop where
  raises : ∀ {s : State} {e}, P s → P (s.raiseEvent e)
  ticks : ∀ {s : State}, P s → P s.tickWindow
  windowEnds : ∀ {s : State}, P s → P s.windowAtZero
  challengeEnds : ∀ {s : State}, P s → P s.expireChallenge
  pins : ∀ {s : State} {x : Pins}, P s → P (s.withPins x)
  ess : ∀ {s : State} {x : SupplySensing}, P s → P (s.withEss x)
  noted : ∀ {s : State} {r : TamperRecord}, P s → P (s.withEc { s.ec with record := r })
  pwr : ∀ {s : State} {x : PowerController}, x.supply = s.pwr.supply → P s → P (s.withPwr x)
  passes : ∀ {s : State} {i x}, s.ec.position = some i → x.position = nextIndex i → P s →
    P ((s.setEntry i .empty).withEc x)
  frameStart : ∀ {s : State}, s.lhi.highway = .running .gap → P s → P (s.moveTo (.inFrame 0 31))
  earlySync : ∀ {s : State} {slot bit}, s.lhi.highway = .running (.inFrame slot bit) → P s →
    P ((s.cutWord.mapChannels Channel.breakAssembly).moveTo .gap)
  wordFixed : ∀ {s : State} {slot c}, s.lhi.highway = .running (.inFrame slot 31) →
    s.lhi.tx = none → s.lhi.active.channel slot = some c → P s → P (s.fixWord c)
  slotEnd : ∀ {s : State} {slot bit received sentFirst},
    s.lhi.highway = .running (.inFrame slot bit) → P s → P (s.endSlot slot received sentFirst)
  timesOut : ∀ {s : State} {c n}, P s → P (s.mapChannel c (Channel.timeOut n))
  runs : ∀ {s : State} {n}, s.lhi.highway = .enabling n → P s → P (s.moveTo .gap)
  converts : ∀ {s : State} {cv crossing}, s.tm.conversion = some cv → P s →
    P (s.completeConversion cv crossing)
  holdConverts : ∀ {s : State} {m n}, P s → P (s.withTm (s.tm.begin m n))
  reports : ∀ {s : State}, P s → P s.lidReport
  erases : ∀ {s : State} {cause}, P s → P (s.eraseStart cause)
  visits : ∀ {s : State} {p cold job}, job.claimant = .pwr → s.pwr.supply ≠ .normal → P s →
    P (s.visit p cold job)
  finishes : ∀ {s : State} {cold}, s.pwr.supply ≠ .normal → P s → P (s.finishRestart cold)
  starts : ∀ {s : State}, P s → P s.initialise
  lost : ∀ {s : State}, P s → P s.holdLost
  cold : ∀ {pins : Pins} {queue : List Instr}, P ((State.cold pins).withPending queue)

namespace State.Plain

variable {P : State → Prop} {s t : State} {i : Instr} (k : Plain P)

include k

theorem trigger (cause : Cause) (h : P s) : P (s.trigger cause) :=
  trigger_keeps k.erases k.noted cause h

theorem counts {x : PowerController} (supply : x.supply = s.pwr.supply)
    (_ : x.seconds = s.pwr.seconds) (h : P s) : P (s.withPwr x) :=
  k.pwr supply h

theorem raiseIf {b : Bool} {e : Event} (h : P s) : P (s.raiseIf b e) := by
  unfold State.raiseIf
  split
  · exact k.raises h
  · exact h

theorem reportIf (b : Bool) (h : P s) : P (s.reportIf b) := by
  unfold State.reportIf
  split
  · exact k.reports h
  · exact h

theorem judgeBattery (r : BatteryResult) (h : P s) : P (s.judgeBattery r) := by
  unfold State.judgeBattery
  split
  · exact judgeInHold_keeps k.erases k.noted _ h
  all_goals exact k.raiseIf h

theorem holdEntry (h : P s) : P s.holdEntry :=
  judgeInHold_keeps k.erases k.noted _ (k.lost h)

theorem eraseAt {n : EntryIndex} (position : s.ec.position = some n) (h : P s) :
    P (s.eraseAt n) := by
  unfold State.eraseAt
  dsimp only
  split
  · next next => exact k.passes position next.symm h
  · next last =>
    exact actOnHeld_keeps k.visits k.finishes k.counts k.starts k.holdEntry
      (k.raises (k.passes position last.symm h))

/-- A law with these parts is kept by every command, if the console's commands, a service start and the
end of a claim keep it. -/
theorem arm
    (selects : ∀ {c : ChannelNo} {r : Request} {rest : List Request} {t : State},
      s.su.inService = none → (s.channel c).requests = r :: rest →
      ((s.setChannel c { s.channel c with requests := rest }).withSu
        { s.su with pointer := c }).startService c r = .next t → P s → P t)
    (claimEnds : ∀ {claim}, s.cc.current = some claim → P s → P (s.completeClaim claim))
    (row : ∀ {reply} (c : Command) (draw : Block), s.ci.port = .ready reply → P s →
      P ((s.takeCommand c).completeCommand draw))
    (refuses : ∀ {reply} (status : ConsoleStatus), s.ci.port = .ready reply → P s →
      P (s.refuse status))
    (write : ∀ w, P s → P (s.portWriteAt w))
    (complete : ∀ draw, P s → P (s.completeCommand draw)) (arm : s.Arm i t) (h : P s) : P t := by
  cases arm with
  | stands => exact h
  | frameStart gap => exact k.frameStart gap h
  | earlySync inside => exact k.raises (k.earlySync inside h)
  | wordFixed first unfixed assigned => exact k.wordFixed first unfixed assigned h
  | slotEnd inside => exact k.slotEnd inside (k.pins h)
  | timesOut => exact k.timesOut h
  | runs enabling => exact k.runs enabling h
  | selects free _ head begins => exact selects free head begins h
  | claimEnds current => exact claimEnds current h
  | row _ port => exact row _ _ port h
  | longLabel port => exact refuses _ port h
  | write => exact write _ h
  | completes => exact complete _ h
  | second =>
    unfold State.startSample
    have counted : P (s.withPwr { s.pwr with seconds := s.pwr.seconds + 1 }) := k.pwr (by rfl) h
    have expired := k.challengeEnds (k.ticks counted)
    split
    · exact k.ess expired
    · exact expired
  | windowEnds => exact k.windowEnds h
  | challengeEnds => exact k.challengeEnds h
  | battery => exact k.judgeBattery _ (k.ess h)
  | converts running => exact k.converts running h
  | holdConverts => exact k.holdConverts h
  | lids => exact k.reportIf _ (k.reportIf _ (k.ess h))
  | emzFalls => exact k.trigger _ (k.pins (k.ess h))
  | emzRises => exact k.pins (k.ess h)
  | vdd =>
    obtain ⟨e, p, moved, supply, -⟩ := s.vddMoves_eq _
    exact moved ▸ k.pwr supply (k.ess (k.pins h))
  | lowTimer => exact requestHold_keeps k.counts k.holdEntry (k.ess h)
  | returnTimer => exact requestRestart_keeps k.visits k.finishes k.counts k.starts (k.ess h)
  | resetLow => exact requestReset_keeps k.visits k.finishes k.counts k.starts (k.pins h)
  | resetHigh => exact releaseReset_keeps k.visits k.finishes k.counts (k.pins h)
  | feedLost => exact k.pwr (s := (State.cold s.pins).withPending s.pending) rfl k.cold
  | coldStart => exact k.cold
  | erases position => exact k.eraseAt position h

end State.Plain

/-! ## A law that reads nothing of the console -/

/-- The parts of the commands that such a law is to be kept by, but for the serving of a console
command and an install. -/
structure State.Parts (P : State → Prop) : Prop extends State.Plain P where
  console : ∀ {s t : State}, s.ConsoleOnly t → P s → P t
  raises := fun h => console .raiseEvent h
  ticks := fun h => console .tickWindow h
  windowEnds := fun h => console .windowAtZero h
  challengeEnds := fun h => console .expireChallenge h
  charged : ∀ {s : State} {i k}, P s → P (s.setEntry i ((s.entry i).charge k))
  takes : ∀ {s : State} {c r rest reply}, s.su.inService = none →
    (s.channel c).requests = r :: rest → P s →
    P (((s.setChannel c { s.channel c with requests := rest }).withSu
      { s.su with pointer := c }).reply c reply)
  binds : ∀ {s : State} {c r rest x}, s.su.inService = none →
    (s.channel c).requests = r :: rest → x.channel = c → P s →
    P ((s.setChannel c { s.channel c with requests := rest }).withSu
      { pointer := c, inService := some x })
  derived : ∀ {s : State} {results}, P s → P (s.completeDerive results)
  checked : ∀ {s : State} {p results}, P s → P (s.applyCheck p results)

/-- A law that serving and installing keep too. -/
structure State.Closed (P : State → Prop) : Prop extends State.Parts P where
  serving : ∀ {s t : State} {c : Command}, s.Serving c t → P s → P t
  installs : ∀ {s : State} {target g}, s.tm.state = .armed → P s → P (s.install target g)

namespace State.Parts

variable {P : State → Prop} {s t : State} {i : Instr} (k : Parts P)

include k

theorem selects {c : ChannelNo} {r : Request} {rest : List Request} (free : s.su.inService = none)
    (head : (s.channel c).requests = r :: rest)
    (begins : ((s.setChannel c { s.channel c with requests := rest }).withSu
      { s.su with pointer := c }).startService c r = .next t) (h : P s) : P t := by
  rcases State.startService_cases begins with
    ⟨reply, rfl⟩ | ⟨entry, status, rfl⟩ | ⟨body, bound, -, -, rfl⟩
  · exact k.takes free head h
  · exact k.console (State.failRequest_consoleOnly _ _ _ _ _) (k.takes free head h)
  · let x : InService := ⟨c, r.tag, body, bound, false⟩
    have bound' := k.binds (x := x) free head rfl h
    refine k.console ?_ (k.charged (i := body.entry) (k := body.count) bound')
    unfold State.bindDerive State.chargeEntry
    constructor <;> simp <;> rfl

theorem deliverResults (installs : ∀ {target g}, s.tm.state = .armed → P s → P (s.install target g))
    (job : Job) (h : P s) : P (s.deliverResults job) := by
  unfold State.deliverResults
  split
  · exact k.derived h
  · exact k.console .completeRespond h
  · exact k.console .completeComponent h
  · unfold State.completeCommit
    split
    · next x _ _ =>
      split
      · exact k.console .finish (k.console .withCec h)
      · next passes =>
        have armed := State.armed_of_commitFailure passes
        exact k.console .finish (k.console .withCec (installs armed h))
    · exact k.console .finish h
    · exact h
  all_goals
    unfold State.completeCheck
    split
    · refine selfCheckFrom_keeps k.visits k.finishes _ _ ?_ (k.checked h)
      simp [*]
    all_goals exact h

theorem completeClaim
    (installs : ∀ {s : State} {target g}, s.tm.state = .armed → P s → P (s.install target g))
    (claim : Claim) (h : P s) : P (s.completeClaim claim) :=
  k.console .withCc (k.deliverResults installs claim.job (k.console .withCc h))

/-- A law with these parts is kept by every command, if the console commands and an install keep it. -/
theorem arm
    (installs : ∀ {s : State} {target g}, s.tm.state = .armed → P s → P (s.install target g))
    (row : ∀ (c : Command) (draw : Block), P s → P ((s.takeCommand c).completeCommand draw))
    (write : ∀ w, P s → P (s.portWriteAt w))
    (complete : ∀ draw, P s → P (s.completeCommand draw)) (arm : s.Arm i t) (h : P s) : P t :=
  k.toPlain.arm k.selects (fun _ => k.completeClaim installs _) (fun c draw _ => row c draw)
    (fun _ _ => k.console .finish) write complete arm h

end State.Parts

/-- Such a law is kept by every command. -/
theorem State.Closed.arm {P : State → Prop} {s t : State} {i : Instr} (k : State.Closed P)
    (arm : s.Arm i t) (h : P s) : P t :=
  k.toParts.arm k.installs
    (fun c draw h => completeCommand_keeps k.console (fun _ => k.serving) draw
      (takeCommand_keeps k.console (fun _ => k.serving) c h))
    (fun w h => portWriteAt_keeps k.console (fun _ => k.serving) w h)
    (fun draw h => completeCommand_keeps k.console (fun _ => k.serving) draw h) arm h

end Sys2Proof.Machine

/-! The law of the meshes (R143, R147): each operation of the Tamper Monitor keeps it, and so does every
step. -/

namespace Sys2Proof.Machine

/-! ## The record of one mesh -/

section Record

variable {r : MeshRecord} {armed : Bool} {window n : Nat}

theorem MeshRecord.InBand.disarmed (h : r.InBand armed window) (last : n = r.lastM)
    {r' : MeshRecord} (same : r'.lastM = n) (w : Nat) : r'.InBand false w :=
  ⟨nofun, same ▸ last ▸ h.2⟩

/-- M is at most 8192, since C is at most 2N (R138, R143). -/
theorem normalise_le {c : Nat} (most : c ≤ 2 * n) : normalise n c ≤ 8192 := by
  unfold normalise
  refine Nat.div_le_of_le_mul ?_
  omega

theorem MeshRecord.InBand.record (h : r.InBand armed window) (most : n ≤ 8192) :
    ({ r with lastM := n, lastValid := true } : MeshRecord).InBand armed window :=
  ⟨h.1, most⟩

/-- A limited baseline lies in the band (R147). -/
theorem bandLimit_inBand (learned window baseline : Nat) :
    bandLimit learned window baseline ≤ learned + window ∧
      learned ≤ bandLimit learned window baseline + window := by
  unfold bandLimit
  omega

theorem MeshRecord.InBand.judged (h : r.InBand armed window) (v : Verdict) (drift : Bool)
    (reading : Nat) : (r.judged v drift window reading).InBand armed window := by
  cases v with
  | cut | strike => exact h
  | within => exact ⟨fun _ => bandLimit_inBand _ _ _, h.2⟩

theorem MeshRecord.InBand.reband (h : r.InBand armed window) (w : Nat) :
    (r.reband w).InBand armed w :=
  ⟨fun _ => bandLimit_inBand _ _ _, h.2⟩

/-- At the success of learning B is L (R151). -/
theorem MeshRecord.InBand.learn (h : r.InBand armed window) (t : Tally) (w : Nat) :
    (r.learn t).InBand true w :=
  ⟨fun _ => ⟨Nat.le_add_right _ _, Nat.le_add_right _ _⟩, h.2⟩

end Record

/-! ## The monitor -/

/-- Both meshes of a monitor are in band. -/
def TamperMonitor.Banded (tm : TamperMonitor) : Prop :=
  tm.meshA.InBand (tm.state == .armed) tm.window ∧ tm.meshB.InBand (tm.state == .armed) tm.window

theorem State.bandLaw_iff (s : State) : s.BandLaw ↔ s.tm.Banded :=
  Iff.rfl

namespace TamperMonitor.Banded

variable {tm tm' : TamperMonitor} {m : Mesh} {r : MeshRecord} {n : Nat}

/-- Outside ARMED the last readings alone count. -/
theorem of_disarmed (h : tm.Banded) (disarmed : tm'.state ≠ .armed)
    (a : tm'.meshA.lastM ≤ tm.meshA.lastM) (b : tm'.meshB.lastM ≤ tm.meshB.lastM) :
    tm'.Banded := by
  have idle : (tm'.state == .armed) = false := beq_eq_false_iff_ne.mpr disarmed
  refine ⟨⟨?_, a.trans h.1.2⟩, ⟨?_, b.trans h.2.2⟩⟩
  all_goals
    rw [idle]
    exact nofun

theorem mesh (h : tm.Banded) (m : Mesh) : (tm.mesh m).InBand (tm.state == .armed) tm.window := by
  cases m with
  | a => exact h.1
  | b => exact h.2

theorem setMesh (h : tm.Banded) (banded : r.InBand (tm.state == .armed) tm.window) :
    (tm.setMesh m r).Banded := by
  cases m with
  | a => exact ⟨banded, h.2⟩
  | b => exact ⟨h.1, banded⟩

theorem setMesh_lastValid (h : tm.Banded) (m : Mesh) (b : Bool) :
    (tm.setMesh m { tm.mesh m with lastValid := b }).Banded :=
  h.setMesh ⟨(h.mesh m).1, (h.mesh m).2⟩

/-- What the conversion and the schedule stand at is not read. -/
theorem begin (h : tm.Banded) (m : Mesh) (n : Nat) : (tm.begin m n).Banded := h

theorem discard (h : tm.Banded) : tm.discard.Banded := by
  unfold TamperMonitor.discard
  split
  · exact h
  · exact h.setMesh_lastValid _ _

theorem recorded (h : tm.Banded) (m : Mesh) (most : n ≤ 8192) :
    ((tm.record m n).afterConversion m).Banded := by
  have kept : (tm.record m n).Banded := h.setMesh ((h.mesh m).record most)
  unfold TamperMonitor.afterConversion
  split <;> exact kept

theorem judged (h : tm.Banded) (m : Mesh) (v : Verdict) (reading : Nat) :
    (tm.setMesh m ((tm.mesh m).judged v tm.drift tm.window reading)).Banded :=
  h.setMesh ((h.mesh m).judged v tm.drift reading)

theorem trip (h : tm.Banded) : tm.trip.Banded :=
  h.of_disarmed (by simp [TamperMonitor.trip]) le_rfl le_rfl

theorem succeed (h : tm.Banded) (l : Learning) : (tm.succeed l).Banded :=
  ⟨h.1.learn l.a _, h.2.learn l.b _⟩

theorem unarmed (h : tm.Banded) (l : Option Learning) :
    ({ tm with state := .unarmed, learning := l } : TamperMonitor).Banded :=
  h.of_disarmed (by simp) le_rfl le_rfl

theorem configure (h : tm.Banded) (runUp window strikes : Nat) (drift : Bool) :
    (tm.configure runUp window strikes drift).Banded := by
  by_cases armed : tm.state = .armed
  · rw [TamperMonitor.configure_of_armed armed]
    exact ⟨h.1.reband window, h.2.reband window⟩
  · rw [TamperMonitor.configure_of_not_armed armed]
    exact h.of_disarmed armed le_rfl le_rfl

theorem endLearning_armed {x : MonitorState} (h : x.endLearning = .armed) : x = .armed := by
  cases x with
  | armed => rfl
  | unarmed | learning | tripped => nomatch h

/-- Hold entry keeps each baseline, and learning ends (R156). -/
theorem holdEntry (h : tm.Banded) : tm.holdEntry.Banded := by
  have discarded := h.discard
  by_cases armed : tm.state = .armed
  · have still : tm.discard.state.endLearning = tm.discard.state := by
      simp [armed, MonitorState.endLearning]
    refine ⟨⟨?_, discarded.1.2⟩, ⟨?_, discarded.2.2⟩⟩
    · simpa only [TamperMonitor.holdEntry, TamperMonitor.begin, MeshRecord.clearStrikes, still]
        using discarded.1.1
    · simpa only [TamperMonitor.holdEntry, TamperMonitor.begin, MeshRecord.clearStrikes, still]
        using discarded.2.1
  · refine discarded.of_disarmed (fun still => armed ?_) le_rfl le_rfl
    rw [TamperMonitor.holdEntry_state] at still
    exact endLearning_armed still

theorem restart (h : tm.Banded) : tm.restart.Banded := by
  by_cases armed : tm.state = .armed
  · have still : tm.state.endLearning = tm.state := by simp [armed, MonitorState.endLearning]
    refine ⟨⟨?_, Nat.zero_le _⟩, ⟨?_, Nat.zero_le _⟩⟩
    · simpa only [TamperMonitor.restart, TamperMonitor.begin, MeshRecord.restart, still] using h.1.1
    · simpa only [TamperMonitor.restart, TamperMonitor.begin, MeshRecord.restart, still] using h.2.1
  · refine h.of_disarmed (fun still => armed ?_) (Nat.zero_le _) (Nat.zero_le _)
    rw [TamperMonitor.restart_state] at still
    exact endLearning_armed still

end TamperMonitor.Banded

/-! ## The part -/

namespace State.BandLaw

variable {s t : State}

theorem congr (h : s.BandLaw) (same : t.tm = s.tm) : t.BandLaw :=
  (State.bandLaw_iff t).mpr (same ▸ h)

theorem eraseStart {cause : Cause} (h : s.BandLaw) : (s.eraseStart cause).BandLaw := by
  rw [State.bandLaw_iff, State.eraseStart_tm]
  exact ((State.bandLaw_iff s).mp h).trip

theorem trigger (cause : Cause) (h : s.BandLaw) : (s.trigger cause).BandLaw :=
  trigger_keeps (P := State.BandLaw) eraseStart (fun h => h) cause h

theorem serving {c : Command} (served : s.Serving c t) (h : s.BandLaw) : t.BandLaw := by
  have banded : s.tm.Banded := h
  cases served with
  | arms =>
    unfold State.beginLearning
    dsimp only
    split
    · exact (banded.unarmed none : _)
    · exact banded.of_disarmed (by simp) le_rfl le_rfl
  | disarms => exact banded.of_disarmed (by simp) le_rfl le_rfl
  | acknowledges => exact banded.of_disarmed (by simp) le_rfl le_rfl
  | mesh => exact banded.configure _ _ _ _
  | measures =>
    unfold State.serveMeasure
    dsimp only [served]
    split
    · exact (banded.discard.begin _ _).unarmed none
    · exact banded.discard.begin _ _
  | zeroizes => exact h.trigger _
  | _ => exact h.congr (by simp)

theorem lidReport (h : s.BandLaw) : s.lidReport.BandLaw := by
  have banded : s.tm.Banded := h
  unfold State.lidReport
  split
  · exact h.trigger _
  · exact (banded.unarmed none : _)
  all_goals exact h

theorem failLearning (h : s.BandLaw) : s.failLearning.BandLaw :=
  ((State.bandLaw_iff s).mp h).unarmed none

theorem learnReading (m : Mesh) (reading : Nat) (h : s.BandLaw) :
    (s.learnReading m reading).BandLaw := by
  unfold State.learnReading
  split
  · exact h
  · split
    · exact h
    · dsimp only
      split
      · exact h.failLearning
      · split
        · exact ((State.bandLaw_iff s).mp h).succeed _
        · exact h

theorem evaluate (m : Mesh) (reading : Nat) (h : s.BandLaw) : (s.evaluate m reading).BandLaw := by
  unfold State.evaluate
  dsimp only
  generalize judge _ _ _ _ = v
  have judged : (s.withTm (s.tm.setMesh m ((s.tm.mesh m).judged v s.tm.drift s.tm.window reading))
      ).BandLaw := ((State.bandLaw_iff s).mp h).judged m v reading
  cases v with
  | cut => exact judged.trigger _
  | strike trips =>
    cases trips with
    | true => exact BandLaw.trigger _ (judged.congr (State.raiseEvent_tm _ _))
    | false => exact judged.congr (State.raiseEvent_tm _ _)
  | within => exact judged

theorem completeConversion (cv : Conversion) (crossing : Nat) (h : s.BandLaw) :
    (s.completeConversion cv crossing).BandLaw := by
  have inRange : normalise cv.runUpCount (cv.reading crossing) ≤ 8192 :=
    normalise_le (cv.reading_le crossing)
  unfold State.completeConversion
  dsimp only
  generalize normalise cv.runUpCount (cv.reading crossing) = reading at inRange
  have recorded : (s.withTm ((s.tm.record cv.mesh reading).afterConversion cv.mesh)).BandLaw :=
    ((State.bandLaw_iff s).mp h).recorded cv.mesh inRange
  unfold State.takeReading
  split
  · exact recorded.evaluate _ _
  · exact recorded.learnReading _ _
  all_goals exact recorded

end State.BandLaw

/-- The operations that leave the monitor, and those above. -/
theorem State.BandLaw.closed : State.Closed State.BandLaw where
  console o h := h.congr o.tm
  serving := serving
  pins h := h
  ess h := h
  noted h := h
  pwr _ h := h
  charged h := h
  passes _ _ h := h
  frameStart _ h := h
  earlySync _ h := h.congr (by simp)
  wordFixed _ _ _ h := h
  slotEnd _ h := h.congr (by simp)
  timesOut h := h
  runs _ h := h
  takes _ _ h := h
  binds _ _ _ h := h
  derived h := h.congr (by simp)
  installs _ h := h.congr (by simp)
  checked h := h.congr (by simp)
  converts _ h := h.completeConversion _ _
  holdConverts h := h
  reports h := h.lidReport
  erases h := h.eraseStart
  visits _ _ h := h
  finishes _ h := h.congr (by simp)
  starts h := ((State.bandLaw_iff _).mp h).restart
  lost h := ((State.bandLaw_iff _).mp h).holdEntry
  cold {pins _} := State.cold_bandLaw (pins := pins)

/-- Settles O11: the law reads the monitor alone, and each of its operations keeps it. -/
theorem baselinesStayInBand : Obligations.BaselinesStayInBand :=
  .of_exec (fun _ _ h => h) (fun _ h => h) State.BandLaw.closed.arm

end Sys2Proof.Machine

/-! The law of the highway (R70, R71, R78, R80, R82): each operation of the Line Highway Interface keeps
it, and so does every step. -/

namespace Sys2Proof.Machine

namespace State.HighwayLaw

variable {s t : State}

theorem congr (h : s.HighwayLaw) (lhi : t.lhi = s.lhi) (supply : t.pwr.supply = s.pwr.supply) :
    t.HighwayLaw := by
  constructor <;> simp only [lhi, supply]
  exacts [h.position, h.word, h.received, h.sampled, h.active, h.waiting, h.enabling, h.timeout,
    h.off]

/-- The highway runs in NORMAL alone (R82). -/
theorem normal_of_running {p : Position} (h : s.HighwayLaw) (running : s.lhi.highway = .running p) :
    s.pwr.supply = .normal := by
  by_contra other
  rw [h.off other] at running
  cases running

theorem normal_of_enabling {n : Nat} (h : s.HighwayLaw) (enabling : s.lhi.highway = .enabling n) :
    s.pwr.supply = .normal := by
  by_contra other
  rw [h.off other] at enabling
  cases enabling

/-- Outside a slot no reply word is in progress (R69). -/
theorem tx_eq_none (h : s.HighwayLaw)
    (outside : ∀ slot bit, s.lhi.highway ≠ .running (.inFrame slot bit)) : s.lhi.tx = none := by
  by_contra standing
  obtain ⟨tx, present⟩ := Option.ne_none_iff_exists'.mp standing
  obtain ⟨slot, bit, inside, -⟩ := h.word tx present
  exact outside slot bit inside

theorem rx_eq_none (h : s.HighwayLaw)
    (outside : ∀ slot bit, s.lhi.highway = .running (.inFrame slot bit) → bit = 31) :
    s.lhi.rx = none := by
  by_contra standing
  obtain ⟨slot, bit, inside, below⟩ := h.received.mp standing
  have first := outside slot bit inside
  omega

/-! ## The words in progress -/

/-- Another reply word, of the slot's channel. -/
theorem withTx (h : s.HighwayLaw) {x : Option TxWord}
    (own : ∀ tx, x = some tx → ∃ slot bit, s.lhi.highway = .running (.inFrame slot bit) ∧
      s.lhi.active.channel slot = some tx.channel) :
    (s.withLhi { s.lhi with tx := x }).HighwayLaw :=
  { h with word := own }

theorem cutWord (h : s.HighwayLaw) : s.cutWord.HighwayLaw := by
  unfold State.cutWord
  split
  · exact h
  · exact (h.withTx (x := none) nofun).congr rfl rfl

theorem countWord (h : s.HighwayLaw) : s.countWord.HighwayLaw := by
  unfold State.countWord
  split
  · exact h
  · exact (h.withTx (x := none) nofun).congr rfl rfl

theorem receiveWord (h : s.HighwayLaw) (slot : Nat) (received : Option RxWord) :
    (s.receiveWord slot received).HighwayLaw :=
  h.congr (by simp) (by simp)

/-- The word that a slot sends when its first bit period fixes it is its channel's (R80). -/
theorem fixWord {slot : Nat} {c : ChannelNo} (h : s.HighwayLaw)
    (first : s.lhi.highway = .running (.inFrame slot 31))
    (assigned : s.lhi.active.channel slot = some c) : (s.fixWord c).HighwayLaw := by
  refine (h.withTx (x := some ((s.channel c).chooseWord c).1) fun tx same => ?_).congr rfl rfl
  cases same
  refine ⟨slot, 31, first, assigned.trans (congrArg some ?_)⟩
  unfold Channel.chooseWord
  dsimp only
  repeat' split
  all_goals rfl

/-! ## The frame position (R70, R82) -/

theorem moveTo {p : Position} (h : s.HighwayLaw) (idle : s.lhi.tx = none)
    (normal : s.pwr.supply = .normal)
    (start : ∀ slot bit, p = .inFrame slot bit → slot < s.lhi.active.length ∧ bit = 31) :
    (s.moveTo p).HighwayLaw where
  position slot bit same := by
    cases same
    obtain ⟨inside, first⟩ := start slot bit rfl
    exact ⟨inside, by omega⟩
  word tx present := nomatch idle.symm.trans present
  received := by
    refine ⟨fun standing => absurd rfl standing, fun ⟨slot, bit, same, below⟩ => ?_⟩
    cases same
    have first := (start slot bit rfl).2
    omega
  sampled := nofun
  active := h.active
  waiting := h.waiting
  enabling := nofun
  timeout := h.timeout
  off other := absurd normal other

theorem completeFrame (h : s.HighwayLaw) (idle : s.lhi.tx = none)
    (normal : s.pwr.supply = .normal) : s.completeFrame.HighwayLaw where
  position := nofun
  word tx present := nomatch idle.symm.trans present
  received := ⟨fun standing => absurd rfl standing, nofun⟩
  sampled := nofun
  active := by
    have next : s.completeFrame.lhi.active = s.lhi.pendingMap.getD s.lhi.active := rfl
    rw [next]
    cases pending : s.lhi.pendingMap with
    | none => exact h.active
    | some m => exact h.waiting m pending
  waiting := nofun
  enabling := nofun
  timeout := h.timeout
  off other := absurd normal other

theorem cutWord_tx : s.cutWord.lhi.tx = none := by
  unfold State.cutWord
  split
  · assumption
  · rfl

theorem countWord_tx : s.countWord.lhi.tx = none := by
  unfold State.countWord
  split
  · assumption
  · rfl

theorem endSlot {slot bit : Nat} {received : Option RxWord} {sentFirst : Bool} (h : s.HighwayLaw)
    (inside : s.lhi.highway = .running (.inFrame slot bit)) :
    (s.endSlot slot received sentFirst).HighwayLaw := by
  have normal := h.normal_of_running inside
  unfold State.endSlot
  extract_lets handed
  have law : handed.HighwayLaw := by
    cases sentFirst with
    | true => exact h.countWord.receiveWord slot received
    | false => exact (h.receiveWord slot received).countWord
  have idle : handed.lhi.tx = none := by
    cases sentFirst with
    | true => exact (congrArg LineHighway.tx (State.receiveWord_lhi _ _ _)).trans countWord_tx
    | false => exact countWord_tx
  have supply : handed.pwr.supply = .normal := by
    cases sentFirst <;> simp [handed, normal]
  split
  · refine law.moveTo idle supply fun slot' bit' same => ?_
    cases same
    exact ⟨‹_›, rfl⟩
  · exact law.completeFrame idle supply

/-! ## Bit periods (R69) -/

/-- The bit period that ends leaves a received word whose bits still to come stand at 0. -/
theorem sampleBit {slot bit : Nat} (h : s.HighwayLaw)
    (inside : s.lhi.highway = .running (.inFrame slot bit)) (pins : Pins) :
    ∃ r, sampleBit pins bit s.lhi.rx = some r ∧ ∀ n, n < bit → r.data.getLsbD n = false := by
  have most := (h.position slot bit inside).2
  by_cases first : bit = 31
  · subst first
    obtain ⟨r, sampled, -, data⟩ := sampleBit_first pins s.lhi.rx
    refine ⟨r, sampled, fun n below => ?_⟩
    simp [data, Nat.ne_of_lt below]
  · have below : bit < 31 := by omega
    obtain ⟨old, standing⟩ :=
      Option.ne_none_iff_exists'.mp (h.received.mpr ⟨slot, bit, inside, below⟩)
    obtain ⟨r, sampled, -, data⟩ := sampleBit_later pins bit below old
    refine ⟨r, standing ▸ sampled, fun n less => ?_⟩
    simp [data, h.sampled slot bit old inside standing n less.le, Nat.ne_of_lt less]

theorem tick (h : s.HighwayLaw) : s.tick.HighwayLaw := by
  cases highway : s.lhi.highway with
  | off => exact h.congr (by simp [State.tick, LineHighway.tick, highway]) rfl
  | enabling n =>
    by_cases short : n + 1 < 64
    · have moved : s.tick.lhi = { s.lhi with highway := .enabling (n + 1) } := by
        simp [State.tick, LineHighway.tick, highway, Config.enablingPeriods, short]
      have normal := h.normal_of_enabling highway
      have idle := h.tx_eq_none (by simp [highway])
      have quiet := h.rx_eq_none (by simp [highway])
      constructor <;> simp only [moved]
      case waiting => exact h.waiting
      case active => exact h.active
      case timeout => exact h.timeout
      case off => exact fun other => absurd normal other
      all_goals simp [idle, quiet]
      exact short
    · refine h.congr ?_ rfl
      simp [State.tick, LineHighway.tick, highway, Config.enablingPeriods, short]
  | running p =>
    cases p with
    | gap => exact h.congr (by simp [State.tick, LineHighway.tick, highway]) rfl
    | inFrame slot bit =>
      by_cases waits : bit = 0 ∨ (bit = 31 ∧ s.lhi.tx = none ∧ (s.lhi.active.channel slot).isSome)
      · exact h.congr (by simp only [State.tick, LineHighway.tick, highway, if_pos waits]) rfl
      · obtain ⟨r, sampled, clear⟩ := h.sampleBit highway s.pins
        have moved : s.tick.lhi =
            { s.lhi with highway := .running (.inFrame slot (bit - 1)), rx := some r } := by
          simp only [State.tick, LineHighway.tick, highway, if_neg waits, sampled]
        have normal := h.normal_of_running highway
        obtain ⟨inside, most⟩ := h.position slot bit highway
        have later : bit ≠ 0 := fun zero => waits (.inl zero)
        constructor <;> simp only [moved]
        case position =>
          rintro slot' bit' ⟨⟩
          exact ⟨inside, by omega⟩
        case word =>
          intro tx present
          obtain ⟨slot', bit', inside', own⟩ := h.word tx present
          cases highway.symm.trans inside'
          exact ⟨slot, bit - 1, rfl, own⟩
        case received =>
          exact ⟨fun _ => ⟨slot, bit - 1, rfl, by omega⟩, fun _ => by simp⟩
        case sampled =>
          rintro slot' bit' r' ⟨⟩ ⟨⟩ n le
          exact clear n (by omega)
        case active => exact h.active
        case waiting => exact h.waiting
        case enabling => exact nofun
        case timeout => exact h.timeout
        case off => exact fun other => absurd normal other

/-! ## Erase start, hold entry and restart (R81, R83, R187) -/

theorem zeroTail_channel (p : Position) (tx : TxWord) : (zeroTail p tx).channel = tx.channel := by
  unfold zeroTail
  split <;> rfl

theorem eraseStart {cause : Cause} (h : s.HighwayLaw) : (s.eraseStart cause).HighwayLaw := by
  have supply : (s.eraseStart cause).pwr.supply = s.pwr.supply.eraseStart := by
    simp [State.eraseStart, State.eraseCheck]
  have lhi : (s.eraseStart cause).lhi = s.lhi.eraseStart := by
    simp [State.eraseStart, State.eraseService]
  have stays : s.pwr.supply.eraseStart ≠ .normal → s.pwr.supply ≠ .normal := by
    intro other normal
    rw [normal] at other
    exact other rfl
  cases highway : s.lhi.highway with
  | running p =>
    have zeroed : s.lhi.eraseStart = { s.lhi with tx := s.lhi.tx.map (zeroTail p) } := by
      simp only [LineHighway.eraseStart, highway]
    have law : (s.withLhi { s.lhi with tx := s.lhi.tx.map (zeroTail p) }).HighwayLaw := by
      refine h.withTx fun tx present => ?_
      obtain ⟨old, standing, rfl⟩ := Option.map_eq_some_iff.mp present
      rw [zeroTail_channel]
      exact h.word old standing
    refine law.congr (lhi.trans zeroed) ?_
    rw [supply, State.withLhi_pwr, h.normal_of_running highway]
    rfl
  | off | enabling =>
    have same : s.lhi.eraseStart = s.lhi := by simp only [LineHighway.eraseStart, highway]
    constructor <;> simp only [lhi, same, supply]
    exacts [h.position, h.word, h.received, h.sampled, h.active, h.waiting, h.enabling, h.timeout,
      fun other => h.off (stays other)]

/-- The highway with its working state lost keeps its map and its timeout (R83). -/
theorem of_lost (h : s.HighwayLaw) (lost : t.lhi = s.lhi.loseWork) : t.HighwayLaw := by
  constructor <;> simp only [lost, LineHighway.loseWork]
  case active => exact h.active
  case timeout => exact h.timeout
  all_goals simp

/-- In RESTARTING the highway is OFF, so nothing is in progress when it is enabled (R82, R187). -/
theorem finishRestart {cold : Bool} (h : s.HighwayLaw) (restarting : s.pwr.supply ≠ .normal) :
    (s.finishRestart cold).HighwayLaw := by
  have highway := h.off restarting
  have idle := h.tx_eq_none (by simp [highway])
  have quiet := h.rx_eq_none (by simp [highway])
  have lhi : (s.finishRestart cold).lhi = { s.lhi with highway := .enabling 0 } := by
    simp [State.finishRestart]
  constructor <;> simp only [lhi]
  case waiting => exact h.waiting
  case active => exact h.active
  case timeout => exact h.timeout
  case off => exact fun other => absurd rfl other
  all_goals simp [idle, quiet]

theorem visit {p : CheckPosition} {cold : Bool} {job : Job} (h : s.HighwayLaw)
    (restarting : s.pwr.supply ≠ .normal) : (s.visit p cold job).HighwayLaw :=
  { h with off := fun _ => h.off restarting }

/-! ## Settings (R129) -/

theorem trigger (cause : Cause) (h : s.HighwayLaw) : (s.trigger cause).HighwayLaw :=
  trigger_keeps (P := State.HighwayLaw) eraseStart (fun h => h.congr rfl rfl) cause h

theorem serving {c : Command} (served : s.Serving c t) (h : s.HighwayLaw) : t.HighwayLaw := by
  cases served with
  | slotMap m least most =>
    refine { h with waiting := fun m' same => ?_ }
    cases same
    exact ⟨least, most⟩
  | timeout n least most => exact { h with timeout := ⟨least, most⟩ }
  | zeroizes => exact h.trigger _
  | _ => exact h.congr (by simp) (by simp)

theorem sensing (o : s.SensingOnly t) (h : s.HighwayLaw) : t.HighwayLaw :=
  h.congr o.lhi (congrArg PowerController.supply o.pwr)

end State.HighwayLaw

/-- The operations that leave the highway and the supply state, and those above. -/
theorem State.HighwayLaw.closed : State.Closed State.HighwayLaw where
  console o h := h.congr o.lhi (congrArg PowerController.supply o.pwr)
  serving := serving
  pins h := h.congr rfl rfl
  ess h := h.congr rfl rfl
  noted h := h.congr rfl rfl
  pwr supply h := h.congr rfl supply
  charged h := h.congr rfl rfl
  passes _ _ h := h.congr rfl rfl
  frameStart gap h := by
    refine h.moveTo (h.tx_eq_none (by simp [gap])) (h.normal_of_running gap) fun slot bit same => ?_
    cases same
    have active := h.active
    exact ⟨by omega, rfl⟩
  earlySync inside h :=
    (h.cutWord.congr (t := State.mapChannels _ _) rfl rfl).moveTo cutWord_tx
      (by simp [h.normal_of_running inside]) nofun
  wordFixed first _ assigned h := h.fixWord first assigned
  slotEnd inside h := h.endSlot inside
  timesOut h := h.congr rfl rfl
  runs enabling h := h.moveTo (h.tx_eq_none (by simp [enabling])) (h.normal_of_enabling enabling) nofun
  takes _ _ h := h.congr rfl rfl
  binds _ _ _ h := h.congr rfl rfl
  derived h := h.congr (by simp) (by simp)
  installs _ h := h.congr (by simp) (by simp)
  checked h := h.congr (by simp) (by simp)
  converts _ h := completeConversion_keeps sensing trigger _ _ h
  holdConverts h := h.congr rfl rfl
  reports h := lidReport_keeps sensing trigger h
  erases h := h.eraseStart
  visits _ restarting h := h.visit restarting
  finishes restarting h := h.finishRestart restarting
  starts h := h.of_lost rfl
  lost h := h.of_lost rfl
  cold {pins _} := (State.cold_highwayLaw (pins := pins)).congr rfl rfl

/-- Settles O12: each operation on the highway keeps the law, and none other reaches it. -/
theorem highwayStaysInFrame : Obligations.HighwayStaysInFrame :=
  .of_exec (fun _ _ h => h.congr rfl rfl) (fun _ h => h.tick) State.HighwayLaw.closed.arm

end Sys2Proof.Machine

/-! The laws of the channel records (R50, R54, R55, R56): a law of one record, given how many of its
requests are in service, that each operation on a record keeps is kept by every step. -/

namespace Sys2Proof.Machine

/-! ## A law of every channel -/

/-- How many requests of a channel are in service (R50). -/
def State.inServiceOf (c : ChannelNo) (s : State) : Nat :=
  if s.channelInService c then 1 else 0

/-- A law holds of every channel record, by the number of its requests in service. -/
def State.Everywhere (P : Nat → Channel → Prop) (s : State) : Prop :=
  ∀ c : ChannelNo, P (s.inServiceOf c) (s.channel c)

/-- The operations on one channel record, by what they do to the number of its requests in service. -/
structure Channel.Law (P : Nat → Channel → Prop) : Prop where
  receive : ∀ {n ch} mark w, P n ch → P n (ch.receive mark w)
  breakAssembly : ∀ {n ch}, P n ch → P n ch.breakAssembly
  timeOut : ∀ {n ch} setting, P n ch → P n (ch.timeOut setting)
  countFrame : ∀ {n ch} setting, P n ch → P n (ch.countFrame setting)
  chosen : ∀ {n ch} c, P n ch → P n (ch.chooseWord c).2
  wordSent : ∀ {n ch} source, P n ch → P n (ch.wordSent source)
  wordCut : ∀ {n ch} source, P n ch → P n (ch.wordCut source)
  commanded : ∀ {n ch ch'}, ch.Commanded ch' → P n ch → P n ch'
  flush : ∀ {n ch}, P n ch → P n ch.flush
  selfChecked : ∀ {n ch} v, P n ch → P n (ch.selfCheck v).1
  answered : ∀ {n ch r rest} reply, ch.requests = r :: rest → P n ch →
    P n (Channel.addReply reply { ch with requests := rest })
  bound : ∀ {ch r rest}, ch.requests = r :: rest → P 0 ch → P 1 { ch with requests := rest }
  credited : ∀ {ch} r k, P 1 ch → P 0 (ch.credit r k)
  dropped : ∀ {ch}, P 1 ch → P 0 { ch with admitted := ch.admitted - 1 }
  erased : ∀ {ch} ended, P (if ended.isSome then 1 else 0) ch → P 0 (ch.eraseStart ended)
  lost : ∀ {n ch}, P n ch → P 0 ch.loseWork
  cold : P 0 Channel.cold

/-! ## Records of the state -/

section Records

variable {s t : State} {c : ChannelNo}

@[simp] theorem State.channel_mapChannels (f : Channel → Channel) :
    (s.mapChannels f).channel c = f (s.channel c) := by
  simp [State.mapChannels, State.channel]

theorem State.inServiceOf_congr (same : t.su.inService = s.su.inService) :
    t.inServiceOf c = s.inServiceOf c := by
  unfold State.inServiceOf State.channelInService
  rw [same]

theorem State.inServiceOf_eq_zero (free : s.su.inService = none) : s.inServiceOf c = 0 := by
  simp [State.inServiceOf, State.channelInService, free]

theorem State.inServiceOf_of_some {r : InService} (busy : s.su.inService = some r) :
    s.inServiceOf c = if r.channel = c then 1 else 0 := by
  simp [State.inServiceOf, State.channelInService, busy]

theorem State.inServiceOf_eq_endedFor :
    s.inServiceOf c = if (s.endedFor c).isSome then 1 else 0 := by
  cases busy : s.su.inService with
  | none => simp [State.inServiceOf_eq_zero busy, State.endedFor, busy]
  | some r =>
    rw [State.inServiceOf_of_some busy]
    by_cases own : r.channel = c <;> simp [State.endedFor, busy, own]

theorem ServiceUnit.markDiscard_channel (c : ChannelNo) (su : ServiceUnit) :
    (su.markDiscard c).inService.map (·.channel) = su.inService.map (·.channel) := by
  rw [ServiceUnit.markDiscard_eq]
  cases su.inService with
  | none => rfl
  | some r =>
    by_cases own : r.channel = c <;> simp [own]

theorem State.inServiceOf_eq_map :
    s.inServiceOf c = if s.su.inService.map (·.channel) = some c then 1 else 0 := by
  cases busy : s.su.inService with
  | none => simp [State.inServiceOf_eq_zero busy]
  | some r => simp [State.inServiceOf_of_some busy]

end Records

namespace State.Everywhere

variable {P : Nat → Channel → Prop} {s t : State}

theorem congr (h : s.Everywhere P) (su : t.su.inService = s.su.inService)
    (channels : t.channels = s.channels) : t.Everywhere P := fun c => by
  rw [State.inServiceOf_congr su, State.channel_congr channels]
  exact h c

/-- One record changes, and the number of requests in service stands. -/
theorem setChannel {c : ChannelNo} {ch : Channel} (h : s.Everywhere P)
    (own : P (s.inServiceOf c) ch) : (s.setChannel c ch).Everywhere P := fun d => by
  rw [State.channel_setChannel, State.inServiceOf_congr (by rfl)]
  split
  · next same => exact same ▸ own
  · exact h d

theorem mapChannel {f : Channel → Channel} (h : s.Everywhere P)
    (keeps : ∀ {n ch}, P n ch → P n (f ch)) (c : ChannelNo) : (s.mapChannel c f).Everywhere P :=
  h.setChannel (keeps (h c))

theorem mapChannels {f : Channel → Channel} (h : s.Everywhere P)
    (keeps : ∀ {n ch}, P n ch → P n (f ch)) : (s.mapChannels f).Everywhere P := fun c => by
  rw [State.channel_mapChannels, State.inServiceOf_congr (by rfl)]
  exact keeps (h c)

/-- Every record changes, and no request is in service any more. -/
theorem of_none {f : ChannelNo → Channel} (free : t.su.inService = none)
    (becomes : ∀ c, t.channel c = f c) (own : ∀ c, P 0 (f c)) : t.Everywhere P := fun c => by
  rw [State.inServiceOf_eq_zero free, becomes]
  exact own c

variable (law : Channel.Law P)

include law

theorem cutWord (h : s.Everywhere P) : s.cutWord.Everywhere P := by
  unfold State.cutWord
  split
  · exact h
  · exact (h.mapChannel (law.wordCut _) _).congr rfl rfl

theorem countWord (h : s.Everywhere P) : s.countWord.Everywhere P := by
  unfold State.countWord
  split
  · exact h
  · exact (h.mapChannel (law.wordSent _) _).congr rfl rfl

theorem receiveWord (slot : Nat) (received : Option RxWord) (h : s.Everywhere P) :
    (s.receiveWord slot received).Everywhere P := by
  unfold State.receiveWord
  split
  · exact h.mapChannel (law.receive _ _) _
  all_goals exact h

theorem endSlot (slot : Nat) (received : Option RxWord) (sentFirst : Bool) (h : s.Everywhere P) :
    (s.endSlot slot received sentFirst).Everywhere P := by
  unfold State.endSlot
  extract_lets handed
  have kept : handed.Everywhere P := by
    cases sentFirst with
    | true => exact receiveWord law slot received (countWord law h)
    | false => exact countWord law (receiveWord law slot received h)
  split
  · exact kept.congr rfl rfl
  · exact (kept.mapChannels (law.countFrame _)).congr rfl rfl

theorem eraseStart {cause : Cause} (h : s.Everywhere P) : (s.eraseStart cause).Everywhere P := by
  refine of_none (by simp) (fun c => State.eraseStart_channel cause c s) fun c => ?_
  exact law.erased _ (State.inServiceOf_eq_endedFor (s := s) ▸ h c)

theorem trigger (cause : Cause) (h : s.Everywhere P) : (s.trigger cause).Everywhere P :=
  trigger_keeps (P := State.Everywhere P) (eraseStart law) (fun h => h.congr rfl rfl) cause h

theorem loseWork {port : Port} (h : s.Everywhere P) : (s.loseWork port).Everywhere P :=
  of_none rfl (fun c => State.channel_loseWork port c s) fun c => law.lost (h c)

/-- The request in service ends with its reply, or is dropped (R40, R45). -/
theorem completeDerive {results : List Result} (h : s.Everywhere P) :
    (s.completeDerive results).Everywhere P := by
  unfold State.completeDerive
  split
  · exact h
  · next r busy =>
    have own : P 1 (s.channel r.channel) := by
      have held := h r.channel
      rwa [State.inServiceOf_of_some busy, if_pos rfl] at held
    have other (c : ChannelNo) (ne : r.channel ≠ c) : P 0 (s.channel c) := by
      have held := h c
      rwa [State.inServiceOf_of_some busy, if_neg ne] at held
    have ends {f : Channel → Channel} (becomes : P 0 (f (s.channel r.channel))) :
        ((s.withSu { s.su with inService := none }).mapChannel r.channel f).Everywhere P := by
      refine of_none rfl (fun c => State.channel_mapChannel _ c f _) fun c => ?_
      split
      · exact becomes
      · exact other c ‹_›
    dsimp only
    split
    · exact ends (law.dropped own)
    · exact ends (law.credited _ _ own)

theorem serving {c : Command} (served : s.Serving c t) (h : s.Everywhere P) : t.Everywhere P := by
  cases served with
  | channel n commanded => exact h.setChannel (law.commanded commanded (h n))
  | flushed n =>
    intro d
    have flushed := h.mapChannel law.flush n d
    rw [State.inServiceOf_eq_map] at flushed ⊢
    rw [State.withSu_su, ServiceUnit.markDiscard_channel]
    exact flushed
  | zeroizes => exact trigger law _ h
  | _ => exact h.congr (by simp) (by simp)

omit law in
theorem sensing (o : s.SensingOnly t) (h : s.Everywhere P) : t.Everywhere P :=
  h.congr (congrArg ServiceUnit.inService o.su) o.channels

theorem parts : State.Parts (State.Everywhere P) where
  console o h := h.congr (congrArg ServiceUnit.inService o.su) o.channels
  pins h := h.congr rfl rfl
  ess h := h.congr rfl rfl
  noted h := h.congr rfl rfl
  pwr _ h := h.congr rfl rfl
  charged h := h.congr rfl rfl
  passes _ _ h := h.congr rfl rfl
  frameStart _ h := h.congr rfl rfl
  earlySync _ h := ((cutWord law h).mapChannels law.breakAssembly).congr rfl rfl
  wordFixed _ _ _ h := (h.setChannel (law.chosen _ (h _))).congr rfl rfl
  slotEnd _ h := endSlot law _ _ _ h
  timesOut h := h.mapChannel (law.timeOut _) _
  runs _ h := h.congr rfl rfl
  takes {s c _ rest reply} _ head h := by
    have answered := h.setChannel (law.answered reply head (h c))
    intro d
    have taken := answered d
    rw [State.channel_setChannel, State.inServiceOf_congr (s := s) (by rfl)] at taken
    rw [State.inServiceOf_congr (s := s) (by rfl), State.reply, State.channel_mapChannel,
      State.channel_congr (s := s.setChannel c _) (by rfl), State.channel_setChannel_self]
    split
    · next same => simpa [same] using taken
    · next other =>
      rw [State.channel_congr (s := s.setChannel c _) (by rfl), State.channel_setChannel_other other]
      simpa [other] using taken
  binds {s c _ rest x} free head own h := by
    intro d
    rw [State.inServiceOf_of_some (by rfl), State.channel_congr (s := s.setChannel c _) (by rfl),
      State.channel_setChannel, own]
    have idle := h d
    rw [State.inServiceOf_eq_zero free] at idle
    split
    · next same =>
      subst same
      exact law.bound head idle
    · exact idle
  derived h := completeDerive law h
  checked {s p results} h := by
    unfold State.applyCheck
    split
    · exact h.congr (by simp) (by simp)
    · next c =>
      exact (h.setChannel (law.selfChecked (resultCheck results 0) (h c))).congr (by simp) (by simp)
  converts _ h := completeConversion_keeps sensing (trigger law) _ _ h
  holdConverts h := h.congr rfl rfl
  reports h := lidReport_keeps sensing (trigger law) h
  erases h := eraseStart law h
  visits _ _ h := h.congr rfl rfl
  finishes _ h := h.congr (by simp) (by simp)
  starts h := (loseWork (port := .starting) law h).congr rfl rfl
  lost h := (loseWork (port := .off) law h).congr rfl rfl
  cold {pins _} := of_none rfl (fun c => State.cold_channel pins c) fun _ => law.cold

/-- A law that an install keeps too is kept by every command. -/
theorem closed (installed : ∀ {n ch ch' g}, ch.installTransport g = some ch' → P n ch → P n ch') :
    State.Closed (State.Everywhere P) where
  toParts := parts law
  serving := serving law
  installs {s target g} _ h := by
    unfold State.install
    split
    · split <;> exact h.congr rfl rfl
    · split <;> exact h.congr rfl rfl
    · split
      · exact h.setChannel (installed ‹_› (h _))
      · exact h

end State.Everywhere

/-! ## A transport key of an OPEN or HALTED channel (R54) -/

/-- The record holds a transport key unless its channel is CLOSED. -/
def Channel.Keyed (_ : Nat) (ch : Channel) : Prop :=
  ch.state ≠ .closed → ch.transport ≠ none

namespace Channel

variable {n : Nat} {ch : Channel}

theorem Keyed.congr {m : Nat} {ch' : Channel} (h : ch.Keyed n) (state : ch'.state = ch.state)
    (transport : ch'.transport = ch.transport) : ch'.Keyed m := by
  unfold Keyed
  rw [state, transport]
  exact h

/-- What an operation on the queues and the assembly leaves: all that R54 and R55 speak of. -/
structure QueuesOnly (ch ch' : Channel) : Prop where
  state : ch'.state = ch.state
  transport : ch'.transport = ch.transport
  limit : ch'.limit = ch.limit

namespace QueuesOnly

theorem deliver (kind : KindCode) (tag : Byte) (length : Nat) (words : List Word) :
    ch.QueuesOnly (ch.deliver kind tag length words) := by
  unfold Channel.deliver
  split <;> exact ⟨rfl, rfl, rfl⟩

theorem breakAssembly : ch.QueuesOnly ch.breakAssembly := by
  unfold Channel.breakAssembly
  split <;> exact ⟨rfl, rfl, rfl⟩

theorem trans {ch' ch'' : Channel} (h : ch.QueuesOnly ch') (h' : ch'.QueuesOnly ch'') :
    ch.QueuesOnly ch'' :=
  ⟨h'.state.trans h.state, h'.transport.trans h.transport, h'.limit.trans h.limit⟩

theorem receive (mark : Bool) (w : Word) : ch.QueuesOnly (ch.receive mark w) := by
  unfold Channel.receive Channel.takeHeader Channel.takeBody
  split
  · refine breakAssembly.trans ?_
    dsimp only
    split
    · exact ⟨rfl, rfl, rfl⟩
    · split
      · exact deliver _ _ _ _
      · exact ⟨rfl, rfl, rfl⟩
  · split
    · exact ⟨rfl, rfl, rfl⟩
    · dsimp only
      split
      · exact .trans (ch' := { ch with assembly := none }) ⟨rfl, rfl, rfl⟩ (deliver _ _ _ _)
      · exact ⟨rfl, rfl, rfl⟩

theorem timeOut (setting : Nat) : ch.QueuesOnly (ch.timeOut setting) := by
  unfold Channel.timeOut
  split
  · exact ⟨rfl, rfl, rfl⟩
  · split
    · exact breakAssembly
    · exact ⟨rfl, rfl, rfl⟩

theorem countFrame (setting : Nat) : ch.QueuesOnly (ch.countFrame setting) := by
  unfold Channel.countFrame
  split
  · exact ⟨rfl, rfl, rfl⟩
  · next a _ =>
    exact .trans (ch' := { ch with assembly := some { a with frames := a.frames + 1 } })
      ⟨rfl, rfl, rfl⟩ (timeOut _)

theorem chosen (c : ChannelNo) : ch.QueuesOnly (ch.chooseWord c).2 := by
  unfold Channel.chooseWord
  repeat' split
  all_goals exact ⟨rfl, rfl, rfl⟩

theorem countSent : ch.QueuesOnly ch.countSent := by
  unfold Channel.countSent
  split
  · exact ⟨rfl, rfl, rfl⟩
  · dsimp only
    split <;> exact ⟨rfl, rfl, rfl⟩

theorem wordSent (source : WordSource) : ch.QueuesOnly (ch.wordSent source) := by
  cases source with
  | header | body => exact countSent
  | refusal | fill => exact ⟨rfl, rfl, rfl⟩

theorem wordCut (source : WordSource) : ch.QueuesOnly (ch.wordCut source) := by
  unfold Channel.wordCut Channel.returnRefusal
  repeat' split
  all_goals exact ⟨rfl, rfl, rfl⟩

end QueuesOnly

theorem Keyed.queues {m : Nat} {ch' : Channel} (h : ch.Keyed n) (o : ch.QueuesOnly ch') :
    ch'.Keyed m :=
  h.congr o.state o.transport

/-- A CLOSED channel needs no key. -/
theorem Keyed.of_closed (closed : ch.state = .closed) : ch.Keyed n := fun other =>
  absurd closed other

/-- Opening asks for a key, halting and resuming for a channel that is not CLOSED. -/
theorem Keyed.commanded {ch' : Channel} (c : ch.Commanded ch') (h : ch.Keyed n) : ch'.Keyed n := by
  cases c with
  | opened opens =>
    unfold Channel.openUp at opens
    split at opens <;> cases opens
    next held => simp [Keyed, held]
  | halted halts =>
    unfold Channel.halt at halts
    split at halts <;> cases halts
    next opened => exact fun _ => h (by simp [opened])
  | resumed resumes =>
    unfold Channel.resume at resumes
    split at resumes <;> cases resumes
    next halted => exact fun _ => h (by simp [halted])
  | closed => exact .of_closed rfl
  | configured => exact h

theorem Keyed.installed {ch' : Channel} {g : Generation}
    (installs : ch.installTransport g = some ch') : ch'.Keyed n := by
  unfold Channel.installTransport at installs
  split at installs <;> cases installs
  exact fun _ => nofun

theorem Keyed.law : Law Keyed where
  receive mark w h := h.queues (.receive mark w)
  breakAssembly h := h.queues .breakAssembly
  timeOut setting h := h.queues (.timeOut setting)
  countFrame setting h := h.queues (.countFrame setting)
  chosen c h := h.queues (.chosen c)
  wordSent source h := h.queues (.wordSent source)
  wordCut source h := h.queues (.wordCut source)
  commanded := Keyed.commanded
  flush h := h
  selfChecked v h := by
    unfold Channel.selfCheck
    split
    · exact h
    · split
      · exact .of_closed rfl
      · exact h
  answered _ _ h := h
  bound _ h := h
  credited _ _ h := h
  dropped h := h
  erased _ _ := .of_closed rfl
  lost h := h
  cold := .of_closed rfl

end Channel

theorem State.channelKeyLaw_iff (s : State) : s.ChannelKeyLaw ↔ s.Everywhere Channel.Keyed :=
  Iff.rfl

/-- Settles O7: only opening and installing, which ask for or bring a key, and closing touch what the
law reads of a record. -/
theorem openChannelsHoldAKey : Obligations.OpenChannelsHoldAKey :=
  .of_exec (fun _ _ h => h) (fun _ h => h)
    (State.Everywhere.closed Channel.Keyed.law fun installs _ => .installed installs).arm

/-! ## The admitted count (R50, R55, R56) -/

/-- The count of R50 of one record, `n` of whose requests are in service. -/
structure Channel.Counted (n : Nat) (ch : Channel) : Prop where
  counted : ch.admitted = ch.requests.length + n + ch.replies.length
  most : ch.admitted ≤ 4
  least : 1 ≤ ch.limit
  limit : ch.limit ≤ 4

namespace Channel.Counted

variable {n : Nat} {ch ch' : Channel}

/-- What the count reads stands. -/
theorem congr (h : ch.Counted n) (requests : ch'.requests = ch.requests)
    (replies : ch'.replies = ch.replies) (admitted : ch'.admitted = ch.admitted)
    (limit : ch'.limit = ch.limit) : ch'.Counted n := by
  constructor <;> simp only [requests, replies, admitted, limit]
  exacts [h.counted, h.most, h.least, h.limit]

/-- Admission asks for a place below the limit (R56). -/
theorem lt_limit_of_admission {kind : KindCode} {length : Nat} {words : List Word}
    {body : RequestBody} (admits : ch.admission kind length words = .inr body) :
    ch.admitted < ch.limit := by
  unfold Channel.admission at admits
  repeat' split at admits
  all_goals cases admits
  exact Nat.lt_of_not_le ‹_›

theorem deliver (h : ch.Counted n) (kind : KindCode) (tag : Byte) (length : Nat)
    (words : List Word) : (ch.deliver kind tag length words).Counted n := by
  unfold Channel.deliver
  split
  · exact h.congr rfl rfl rfl rfl
  · next body admits =>
    have room := lt_limit_of_admission admits
    have counted := h.counted
    have limit := h.limit
    exact ⟨by simp only [List.length_append, List.length_singleton]; omega, by simp only; omega,
      h.least, limit⟩

theorem breakAssembly (h : ch.Counted n) : ch.breakAssembly.Counted n := by
  unfold Channel.breakAssembly
  split
  · exact h
  · exact h.congr rfl rfl rfl rfl

theorem receive (h : ch.Counted n) (mark : Bool) (w : Word) : (ch.receive mark w).Counted n := by
  unfold Channel.receive Channel.takeHeader Channel.takeBody
  split
  · have broken := h.breakAssembly
    dsimp only
    split
    · exact broken.congr rfl rfl rfl rfl
    · split
      · exact broken.deliver _ _ _ _
      · exact broken.congr rfl rfl rfl rfl
  · split
    · exact h
    · dsimp only
      split
      · exact (h.congr (ch' := { ch with assembly := none }) rfl rfl rfl rfl).deliver _ _ _ _
      · exact h.congr rfl rfl rfl rfl

theorem timeOut (h : ch.Counted n) (setting : Nat) : (ch.timeOut setting).Counted n := by
  unfold Channel.timeOut
  split
  · exact h
  · split
    · exact h.breakAssembly
    · exact h

theorem countFrame (h : ch.Counted n) (setting : Nat) : (ch.countFrame setting).Counted n := by
  unfold Channel.countFrame
  split
  · exact h
  · next a _ =>
    exact (h.congr (ch' := { ch with assembly := some { a with frames := a.frames + 1 } })
      rfl rfl rfl rfl).timeOut setting

theorem chosen (h : ch.Counted n) (c : ChannelNo) : (ch.chooseWord c).2.Counted n := by
  unfold Channel.chooseWord
  repeat' split
  all_goals exact h.congr rfl rfl rfl rfl

/-- The reply that leaves takes its place with it (R50). -/
theorem countSent (h : ch.Counted n) : ch.countSent.Counted n := by
  unfold Channel.countSent
  split
  · exact h
  · next r rest replies =>
    dsimp only
    split
    · have counted := h.counted
      simp only [replies, List.length_cons] at counted
      exact ⟨by simp only; omega, (Nat.sub_le _ _).trans h.most, h.least, h.limit⟩
    · exact h.congr rfl rfl rfl rfl

theorem wordSent (h : ch.Counted n) (source : WordSource) : (ch.wordSent source).Counted n := by
  cases source with
  | header | body => exact h.countSent
  | refusal | fill => exact h

theorem wordCut (h : ch.Counted n) (source : WordSource) : (ch.wordCut source).Counted n := by
  unfold Channel.wordCut Channel.returnRefusal
  repeat' split
  all_goals exact h.congr rfl rfl rfl rfl

theorem commanded (c : ch.Commanded ch') (h : ch.Counted n) : ch'.Counted n := by
  cases c with
  | opened opens =>
    unfold Channel.openUp at opens
    split at opens <;> cases opens
    exact h.congr rfl rfl rfl rfl
  | halted halts =>
    unfold Channel.halt at halts
    split at halts <;> cases halts
    exact h.congr rfl rfl rfl rfl
  | resumed resumes =>
    unfold Channel.resume at resumes
    split at resumes <;> cases resumes
    exact h.congr rfl rfl rfl rfl
  | closed =>
    refine ⟨?_, h.most, h.least, h.limit⟩
    have counted := h.counted
    simp only [Channel.close, List.length_append, List.length_map, List.length_nil]
    omega
  | configured _ least most => exact ⟨h.counted, h.most, least, most⟩

theorem inTransmission_le : ch.inTransmission.length ≤ ch.replies.length := by
  rw [Channel.inTransmission_eq]
  split <;> simp

/-- A flush leaves the request in service and the reply in transmission (R63). -/
theorem flush (h : ch.Counted n) : ch.flush.Counted n := by
  have counted := h.counted
  have kept := inTransmission_le (ch := ch)
  refine ⟨?_, (Nat.sub_le _ _).trans h.most, h.least, h.limit⟩
  simp only [Channel.flush, List.length_nil]
  omega

theorem eraseStart_replies (ended : Option InService) :
    (ch.eraseStart ended).replies.length = ch.replies.length +
      (if ended.any fun r => !r.discard then 1 else 0) + ch.requests.length := by
  have old : ch.erasedReplies.length = ch.replies.length := by
    unfold Channel.erasedReplies
    split <;> simp [*]
  simp only [Channel.eraseStart, List.length_append, List.length_map, old]
  cases ended with
  | none => rfl
  | some r => cases discard : r.discard <;> simp [discard]

theorem eraseStart_admitted (ended : Option InService) :
    (ch.eraseStart ended).admitted =
      if ended.any InService.discard then ch.admitted - 1 else ch.admitted := by
  cases ended with
  | none => rfl
  | some r => rfl

/-- The request in service is answered, or leaves the count under its discard mark (R66). -/
theorem erased (ended : Option InService) (h : ch.Counted (if ended.isSome then 1 else 0)) :
    (ch.eraseStart ended).Counted 0 := by
  have counted := h.counted
  have most := h.most
  have replies := eraseStart_replies (ch := ch) ended
  have admitted := eraseStart_admitted (ch := ch) ended
  suffices sum : (ch.eraseStart ended).admitted = (ch.eraseStart ended).replies.length ∧
      (ch.eraseStart ended).admitted ≤ 4 from
    ⟨by simpa [Channel.eraseStart] using sum.1, sum.2, h.least, h.limit⟩
  rw [replies, admitted]
  cases ended with
  | none =>
    simp at counted ⊢
    omega
  | some r => cases discard : r.discard <;> simp [discard] at counted ⊢ <;> omega

theorem installed {g : Generation} (installs : ch.installTransport g = some ch')
    (h : ch.Counted n) : ch'.Counted n := by
  unfold Channel.installTransport at installs
  split at installs <;> cases installs
  exact h.congr rfl rfl rfl rfl

theorem law : Law Counted where
  receive mark w h := h.receive mark w
  breakAssembly h := h.breakAssembly
  timeOut setting h := h.timeOut setting
  countFrame setting h := h.countFrame setting
  chosen c h := h.chosen c
  wordSent source h := h.wordSent source
  wordCut source h := h.wordCut source
  commanded := commanded
  flush h := h.flush
  selfChecked v h := by
    unfold Channel.selfCheck
    repeat' split
    all_goals exact h.congr rfl rfl rfl rfl
  answered reply head h := by
    have counted := h.counted
    simp only [head, List.length_cons] at counted
    refine ⟨?_, h.most, h.least, h.limit⟩
    simp only [Channel.addReply, List.length_append, List.length_singleton]
    omega
  bound head h := by
    have counted := h.counted
    simp only [head, List.length_cons] at counted
    exact ⟨by simp only; omega, h.most, h.least, h.limit⟩
  credited r k h := by
    have counted := h.counted
    refine ⟨?_, h.most, h.least, h.limit⟩
    simp only [Channel.credit, Channel.addReply, List.length_append, List.length_singleton]
    omega
  dropped h := by
    have counted := h.counted
    exact ⟨by simp only; omega, (Nat.sub_le _ _).trans h.most, h.least, h.limit⟩
  erased := erased
  lost h := ⟨rfl, Nat.zero_le 4, h.least, h.limit⟩
  cold := ⟨rfl, Nat.zero_le 4, by decide, by decide⟩

end Channel.Counted

theorem State.countLaw_iff (s : State) : s.CountLaw ↔ s.Everywhere Channel.Counted := by
  constructor
  · exact fun h c => ⟨h.counted c, h.most c, (h.limit c).1, (h.limit c).2⟩
  · exact fun h => ⟨fun c => (h c).counted, fun c => (h c).most,
      fun c => ⟨(h c).least, (h c).limit⟩⟩

/-- Settles O8: each operation on a record keeps its count, and a request that changes place between
the queues and the service keeps its place in it. -/
theorem admittedCountsTheRequests : Obligations.AdmittedCountsTheRequests := by
  have kept : Kept (State.Everywhere Channel.Counted) :=
    .of_exec (fun _ _ h => h) (fun _ h => h) 
      (State.Everywhere.closed Channel.Counted.law Channel.Counted.installed).arm
  exact fun s t h next => (t.countLaw_iff).mpr (kept s t ((s.countLaw_iff).mp h) next)

end Sys2Proof.Machine

/-! The law of key material (R21, R32, R92, R171, R173), in three parts that a step keeps each on its
own: where keys may stand, what may wait at the Cipher Core, and what may be in progress at the port. -/

namespace Sys2Proof.Machine

/-! ## No transport key (R171) -/

/-- The record holds no transport key. -/
def Channel.Keyless (_ : Nat) (ch : Channel) : Prop :=
  ch.transport = none

namespace Channel.Keyless

variable {n m : Nat} {ch ch' : Channel}

theorem queues (h : ch.Keyless n) (o : ch.QueuesOnly ch') : ch'.Keyless m :=
  o.transport.trans h

theorem commanded (c : ch.Commanded ch') (h : ch.Keyless n) : ch'.Keyless n := by
  cases c with
  | opened opens =>
    unfold Channel.openUp at opens
    split at opens <;> cases opens
    exact h
  | halted halts =>
    unfold Channel.halt at halts
    split at halts <;> cases halts
    exact h
  | resumed resumes =>
    unfold Channel.resume at resumes
    split at resumes <;> cases resumes
    exact h
  | closed | configured => exact h

theorem law : Law Keyless where
  receive mark w h := h.queues (.receive mark w)
  breakAssembly h := h.queues .breakAssembly
  timeOut setting h := h.queues (.timeOut setting)
  countFrame setting h := h.queues (.countFrame setting)
  chosen c h := h.queues (.chosen c)
  wordSent source h := h.queues (.wordSent source)
  wordCut source h := h.queues (.wordCut source)
  commanded := commanded
  flush h := h
  selfChecked v h := by
    unfold Channel.selfCheck
    rw [show _ = none from h]
    exact h
  answered _ _ h := h
  bound _ h := h
  credited _ _ h := h
  dropped h := h
  erased _ _ := rfl
  lost h := h
  cold := rfl

end Channel.Keyless

/-! ## Where keys may stand (R21, R137, R171, R173) -/

/-- The part of the law that reads the tables, the monitor and the erase position. -/
structure State.Material (s : State) : Prop where
  armedOnly : s.ec.position = none → s.tm.state ≠ .armed → s.noKeys
  tripped : s.ec.position ≠ none → s.tm.state = .tripped
  noTransport : s.ec.position ≠ none → s.Everywhere Channel.Keyless
  passed : ∀ p, s.ec.position = some p → ∀ i : EntryIndex, i < p → s.entry i = .empty

/-- Nothing is stored that was not, the erase position stands, and the monitor's state stands unless it
was LEARNING. -/
structure State.KeysShrink (s t : State) : Prop where
  held : ∀ i : EntryIndex, (s.entry i).isHeld = false → (t.entry i).isHeld = false
  empty : ∀ i : EntryIndex, s.entry i = .empty → t.entry i = .empty
  transport : s.Everywhere Channel.Keyless → t.Everywhere Channel.Keyless
  state : t.tm.state = s.tm.state ∨ s.tm.state = .learning
  position : t.ec.position = s.ec.position

theorem nextIndex_val {i j : EntryIndex} (h : nextIndex i = some j) : j.val = i.val + 1 := by
  unfold nextIndex entryIndex? at h
  split at h <;> cases h
  rfl

/-- Only the last entry has no next. -/
theorem le_of_nextIndex_none {i : EntryIndex} (h : nextIndex i = none) (j : EntryIndex) : j ≤ i := by
  unfold nextIndex entryIndex? at h
  split at h
  · cases h
  · exact Fin.le_def.mpr (by have := j.isLt; omega)

/-- A self-check stores nothing (R12). -/
theorem Entry.selfCheck_isHeld (v w : CheckValue) {e : Entry} (h : e.isHeld = false) :
    (e.selfCheck v w).1.isHeld = false := by
  cases e with
  | held => nomatch h
  | empty | faulted => rfl

namespace State.Material

variable {s t : State}

theorem shrinks (h : s.Material) (o : s.KeysShrink t) : t.Material where
  armedOnly idle other := by
    have before : s.noKeys := h.armedOnly (o.position ▸ idle) fun armed => by
      rcases o.state with same | learning
      · exact other (same.trans armed)
      · rw [learning] at armed
        nomatch armed
    exact ⟨fun i => o.held i (before.1 i), o.transport before.2⟩
  tripped erasing := by
    have before := h.tripped (o.position ▸ erasing)
    rcases o.state with same | learning
    · exact same.trans before
    · rw [learning] at before
      nomatch before
  noTransport erasing := o.transport (h.noTransport (o.position ▸ erasing))
  passed p at_ i below := o.empty i (h.passed p (o.position ▸ at_) i below)

/-- What the law reads stands. -/
theorem congr (h : s.Material) (kt : t.kt = s.kt) (channels : t.channels = s.channels)
    (tm : t.tm.state = s.tm.state ∨ s.tm.state = .learning) (ec : t.ec.position = s.ec.position) :
    t.Material :=
  h.shrinks {
    held := fun i => by rw [State.entry_congr kt]; exact id
    empty := fun i => by rw [State.entry_congr kt]; exact id
    transport := fun keyless c => by
      unfold Channel.Keyless
      rw [State.channel_congr channels]
      exact keyless c
    state := tm
    position := ec }

/-- Outside an erase, with no key stored, the law holds in every state of the monitor. -/
theorem of_noKeys (idle : s.ec.position = none) (keyless : s.noKeys) : s.Material where
  armedOnly _ _ := keyless
  tripped erasing := absurd idle erasing
  noTransport erasing := absurd idle erasing
  passed p at_ := by simp [idle] at at_

/-- An ARMED monitor rules out an erase, and then keys may stand. -/
theorem of_armed (idle : s.ec.position = none) (armed : s.tm.state = .armed) : s.Material where
  armedOnly _ other := absurd armed other
  tripped erasing := absurd idle erasing
  noTransport erasing := absurd idle erasing
  passed p at_ := by simp [idle] at at_

theorem position_eq_none (h : s.Material) (other : s.tm.state ≠ .tripped) : s.ec.position = none :=
  Classical.byContradiction fun erasing => other (h.tripped erasing)

/-- Only the channels change. -/
theorem ofChannels (h : s.Material) (kt : t.kt = s.kt) (tm : t.tm = s.tm) (ec : t.ec = s.ec)
    (transport : s.Everywhere Channel.Keyless → t.Everywhere Channel.Keyless) : t.Material :=
  h.shrinks {
    held := fun i => by rw [State.entry_congr kt]; exact id
    empty := fun i => by rw [State.entry_congr kt]; exact id
    transport := transport
    state := .inl (by rw [tm])
    position := by rw [ec] }

/-- Only one entry changes, and it holds nothing new. -/
theorem setEntry {i : EntryIndex} {e : Entry} (h : s.Material)
    (held : (s.entry i).isHeld = false → e.isHeld = false) (empty : s.entry i = .empty → e = .empty) :
    (s.setEntry i e).Material := by
  refine h.shrinks ⟨fun j => ?_, fun j => ?_, fun keyless => keyless.congr rfl rfl, .inl rfl, rfl⟩ <;>
    rw [State.entry_setEntry] <;> split
  · next same => exact same ▸ held
  · exact id
  · next same => exact same ▸ empty
  · exact id

theorem sensing (o : s.SensingOnly t) (h : s.Material) : t.Material :=
  h.congr o.kt o.channels o.state (by rw [o.ec])

/-- An erase start establishes the law: nothing is passed yet (R171). -/
theorem of_eraseStart {cause : Cause} : (s.eraseStart cause).Material where
  armedOnly idle := by simp [State.eraseStart_position] at idle
  tripped _ := by
    rw [State.eraseStart_tm]
    rfl
  noTransport _ c := by
    rw [Channel.Keyless, State.eraseStart_channel]
    rfl
  passed p at_ i below := by
    rw [State.eraseStart_position] at at_
    cases at_
    exact absurd below (Nat.not_lt_zero _)

theorem trigger (cause : Cause) (h : s.Material) : (s.trigger cause).Material :=
  trigger_keeps (P := State.Material) (fun _ => of_eraseStart)
    (fun h => h.congr rfl rfl (.inl rfl) rfl) cause h

theorem endLearning_state (x : MonitorState) : x.endLearning = x ∨ x = .learning :=
  x.endLearning_cases.imp_right And.left

/-- The pass empties the entry at its position and goes on to the next, or ends (R173, R175). -/
theorem passes {i : EntryIndex} {x : EraseController} (at_ : s.ec.position = some i)
    (next : x.position = nextIndex i) (h : s.Material) :
    ((s.setEntry i .empty).withEc x).Material := by
  have erasing : s.ec.position ≠ none := by simp [at_]
  have emptied (j : EntryIndex) (reached : j ≤ i) :
      ((s.setEntry i .empty).withEc x).entry j = .empty := by
    rw [State.entry_congr (s := s.setEntry i .empty) (by rfl), State.entry_setEntry]
    split
    · rfl
    · next other => exact h.passed i at_ j (lt_of_le_of_ne reached (Ne.symm other))
  have keyless := h.noTransport erasing
  cases last : nextIndex i with
  | none =>
    refine of_noKeys (next.trans last) (.intro (fun j => ?_) (keyless.congr rfl rfl))
    rw [emptied j (le_of_nextIndex_none last j)]
    rfl
  | some k =>
    have position : ((s.setEntry i .empty).withEc x).ec.position = some k := next.trans last
    refine ⟨fun idle => (nomatch position.symm.trans idle), fun _ => h.tripped erasing,
      fun _ => keyless.congr rfl rfl, fun p at_ j below => emptied j ?_⟩
    cases position.symm.trans at_
    have successor := nextIndex_val last
    exact Fin.le_def.mpr (by have := Fin.lt_def.mp below; omega)

theorem applyCheck {p : CheckPosition} {results : List Result} (h : s.Material) :
    (s.applyCheck p results).Material := by
  unfold State.applyCheck
  split
  · next i =>
    have kept : (s.setEntry i ((s.entry i).selfCheck (resultCheck results 0)
        (resultCheck results 1)).1).Material := by
      refine h.setEntry ?_ ?_
      · exact Entry.selfCheck_isHeld _ _
      · intro empty
        rw [empty]
        rfl
    exact kept.congr (by simp) (by simp) (.inl (by simp)) (by simp)
  · next c =>
    have kept := h.ofChannels (t := s.setChannel c ((s.channel c).selfCheck (resultCheck results 0)).1)
      rfl rfl rfl fun keyless =>
        keyless.setChannel (Channel.Keyless.law.selfChecked (resultCheck results 0) (keyless c))
    exact kept.congr (by simp) (by simp) (.inl (by simp)) (by simp)

theorem parts : State.Parts State.Material where
  console o h := h.congr o.kt o.channels (.inl (by rw [o.tm])) (by rw [o.ec])
  pins h := h.congr rfl rfl (.inl rfl) rfl
  ess h := h.congr rfl rfl (.inl rfl) rfl
  noted h := h.congr rfl rfl (.inl rfl) rfl
  pwr _ h := h.congr rfl rfl (.inl rfl) rfl
  charged {s i k} h := by
    unfold Entry.charge
    split
    · exact h.setEntry id id
    · next d data =>
      refine h.setEntry ?_ fun empty => ?_
      · rw [Entry.setData_isHeld]
        exact id
      · rw [empty] at data
        nomatch data
  passes at_ next h := h.passes at_ next
  frameStart _ h := h.congr rfl rfl (.inl rfl) rfl
  earlySync inside h := h.ofChannels (by simp) (by simp) (by simp)
    ((State.Everywhere.parts Channel.Keyless.law).earlySync inside)
  wordFixed first unfixed assigned h := h.ofChannels rfl rfl rfl
    ((State.Everywhere.parts Channel.Keyless.law).wordFixed first unfixed assigned)
  slotEnd inside h := h.ofChannels (by simp) (by simp) (by simp)
    ((State.Everywhere.parts Channel.Keyless.law).slotEnd inside)
  timesOut h := h.ofChannels rfl rfl rfl (State.Everywhere.parts Channel.Keyless.law).timesOut
  runs _ h := h.congr rfl rfl (.inl rfl) rfl
  takes free head h := h.ofChannels rfl rfl rfl
    ((State.Everywhere.parts Channel.Keyless.law).takes free head)
  binds free head own h := h.ofChannels rfl rfl rfl
    ((State.Everywhere.parts Channel.Keyless.law).binds free head own)
  derived h := h.ofChannels (by simp) (by simp) (by simp)
    (State.Everywhere.parts Channel.Keyless.law).derived
  checked h := h.applyCheck
  converts _ h := completeConversion_keeps sensing trigger _ _ h
  holdConverts h := h.congr rfl rfl (.inl rfl) rfl
  reports h := lidReport_keeps sensing trigger h
  erases _ := of_eraseStart
  visits _ _ h := h.congr rfl rfl (.inl rfl) rfl
  finishes _ h := h.congr (by simp) (by simp) (.inl (by simp)) (by simp)
  starts h := by
    refine h.shrinks ⟨fun _ => id, fun _ => id, fun keyless => ?_, endLearning_state _, rfl⟩
    exact (State.Everywhere.parts Channel.Keyless.law).starts keyless
  lost {s} h := by
    refine h.shrinks ⟨fun _ => id, fun _ => id, fun keyless => ?_, ?_, rfl⟩
    · exact (State.Everywhere.parts Channel.Keyless.law).lost keyless
    · have same : s.holdLost.tm.state = s.tm.state.endLearning := TamperMonitor.holdEntry_state s.tm
      exact same ▸ endLearning_state s.tm.state
  cold {pins queue} := of_noKeys rfl (State.cold_noKeys (pins := pins))

end State.Material

/-! ## The Cipher Core's waiting claims (R32) and the port during an erase (R92) -/

/-- No waiting claim holds a key value of the Service Unit (R32). -/
def CipherCore.Lawful (cc : CipherCore) : Prop :=
  ∀ job, .held job ∈ cc.waiting → job.claimant ≠ .su

namespace CipherCore.Lawful

variable {cc : CipherCore}

theorem of_subset {cc' : CipherCore} (h : cc.Lawful) (within : ∀ w ∈ cc'.waiting, w ∈ cc.waiting) :
    cc'.Lawful :=
  fun job waits => h job (within _ waits)

/-- A claim of the Service Unit waits without its keys (R32). -/
theorem waiting_held {job job' : Job} (h : job.waiting = .held job') : job'.claimant ≠ .su := by
  unfold Job.waiting at h
  split at h <;> cases h
  all_goals simp [*]

theorem present (h : cc.Lawful) (job : Job) : (cc.present job).Lawful := by
  unfold CipherCore.present
  split
  · exact h
  · intro job' waits
    rcases List.mem_append.mp waits with before | new
    · exact h job' before
    · exact waiting_held (List.mem_singleton.mp new).symm

theorem operate (h : cc.Lawful) : cc.operate.Lawful := by
  unfold CipherCore.operate
  split
  · exact h
  · dsimp only
    split <;> exact h

theorem arbitrate (h : cc.Lawful) (record : Option InService) : (cc.arbitrate record).Lawful := by
  unfold CipherCore.arbitrate
  split
  · exact h
  · split
    · exact h
    · split
      · exact h
      · exact h.of_subset fun w => List.mem_of_mem_erase

end CipherCore.Lawful

/-- What a claim's results do to the Cipher Core: a self-check may go on with a claim of the Power
Controller (R188). -/
theorem State.deliverResults_cc_cases (job : Job) (s : State) :
    (s.deliverResults job).cc = s.cc ∨
      ∃ job', job'.claimant = .pwr ∧ (s.deliverResults job).cc = s.cc.present job' := by
  cases job with
  | derive | respond | component | commit => exact .inl (by simp [State.deliverResults])
  | checkEntry | checkTransport =>
    unfold State.deliverResults State.completeCheck
    dsimp only
    split
    · next p cold _ =>
      generalize Job.results _ = results
      rcases (s.applyCheck p results).selfCheckFrom_cases (p.place + 1) cold with
        ⟨q, job', -, claimant, e⟩ | ⟨-, e⟩
      · exact .inr ⟨job', claimant, by simp [e, State.visit, State.presentClaim]⟩
      · exact .inl (by simp [e])
    all_goals exact .inl rfl

theorem TamperMonitor.configure_state (runUp window strikes : Nat) (drift : Bool)
    (tm : TamperMonitor) : (tm.configure runUp window strikes drift).state = tm.state := by
  unfold TamperMonitor.configure
  dsimp only
  split <;> simp [*]

theorem State.beginLearning_port {s : State} : s.beginLearning.ci.port = s.ci.port := by
  unfold State.beginLearning
  dsimp only
  split <;> rfl

theorem State.serveMeasure_port {s : State} : s.serveMeasure.state.ci.port = s.ci.port := by
  unfold State.serveMeasure
  dsimp only [served]
  split <;> rfl

theorem State.applyCheck_port (p : CheckPosition) (results : List Result) (s : State) :
    (s.applyCheck p results).ci.port = s.ci.port := by
  unfold State.applyCheck
  split <;> simp

theorem State.serveMeasure_state {s : State} :
    s.serveMeasure.state.tm.state = s.tm.state ∨ s.tm.state = .learning := by
  unfold State.serveMeasure
  dsimp only [served]
  split
  · next learning => exact .inr (eq_of_beq learning)
  · exact .inl (TamperMonitor.discard_state s.tm)

/-- Where no key is stored, none is after a change elsewhere. -/
theorem State.noKeys.congr {s t : State} (h : s.noKeys) (kt : t.kt = s.kt)
    (channels : t.channels = s.channels) : t.noKeys :=
  ⟨fun i => State.entry_congr kt i ▸ h.1 i, fun c => State.channel_congr channels c ▸ h.2 c⟩

theorem State.failRequest_port (c : ChannelNo) (r : Request) (i : EntryIndex) (status : ReplyStatus)
    (s : State) : (s.failRequest c r i status).ci.port = s.ci.port := by
  unfold State.failRequest
  dsimp only
  split <;> rfl

theorem State.startOpen_port {s : State} {kind target generation components : Byte}
    {issuer : IssuerTag} {rights labelLength : Byte} {label : List Byte} :
    (s.startOpen kind target generation components issuer rights labelLength label).ci.port =
      s.ci.port := by
  rw [State.startOpen_ci]

/-- The part of the law that reads the Cipher Core's queue, the port and the erase position. -/
structure State.DeskLaw (s : State) : Prop where
  waiting : s.cc.Lawful
  servedOnly : s.ec.position ≠ none → ∀ c, s.ci.port = .executing c → c.servedDuringErase = true

namespace State.DeskLaw

variable {s t : State}

theorem congr (h : s.DeskLaw) (cc : t.cc = s.cc) (port : t.ci.port = s.ci.port)
    (ec : t.ec.position = s.ec.position) : t.DeskLaw where
  waiting := cc ▸ h.waiting
  servedOnly := by
    rw [ec, port]
    exact h.servedOnly

/-- With no command in progress, only the queue is left to read. -/
theorem of_idle (waiting : t.cc.Lawful) (idle : ∀ c, t.ci.port ≠ .executing c) : t.DeskLaw :=
  ⟨waiting, fun _ c executing => absurd executing (idle c)⟩

theorem withCc (h : s.DeskLaw) {cc : CipherCore} (waiting : cc.Lawful) : (s.withCc cc).DeskLaw :=
  ⟨waiting, h.servedOnly⟩

theorem present (h : s.DeskLaw) (job : Job) : (s.presentClaim job).DeskLaw :=
  h.withCc (h.waiting.present job)

/-- A completion leaves only the queue to read. -/
theorem finish (waiting : s.cc.Lawful) {status : ConsoleStatus} {body : List Byte} :
    (s.finish status body).DeskLaw :=
  .of_idle (by simpa using waiting) (by simp)

theorem sensing (o : s.SensingOnly t) (h : s.DeskLaw) : t.DeskLaw :=
  h.congr o.cc (by rw [o.ci]) (by rw [o.ec])

theorem windowAtZero (h : s.DeskLaw) : s.windowAtZero.DeskLaw := by
  unfold State.windowAtZero
  split
  · exact h.congr rfl rfl rfl
  · exact h.congr (by simp) (by simp) (by simp)

theorem tickWindow (h : s.DeskLaw) : s.tickWindow.DeskLaw := by
  unfold State.tickWindow
  split
  · dsimp only
    split
    · exact windowAtZero (h.congr rfl rfl rfl)
    · exact h.congr rfl rfl rfl
  · exact h

/-- An erase start ends the command in progress (R93, R172). -/
theorem of_eraseStart {cause : Cause} : (s.eraseStart cause).DeskLaw := by
  refine .of_idle (by simp [CipherCore.idle, CipherCore.Lawful]) fun c => ?_
  rw [State.eraseStart_port]
  exact Port.eraseStart_not_executing _ c

theorem trigger (cause : Cause) (h : s.DeskLaw) : (s.trigger cause).DeskLaw :=
  trigger_keeps (P := State.DeskLaw) (fun _ => of_eraseStart) (fun h => h.congr rfl rfl rfl) cause h

theorem plain : State.Plain State.DeskLaw where
  raises h := h.congr rfl rfl rfl
  ticks h := h.tickWindow
  windowEnds h := h.windowAtZero
  challengeEnds {s} h := by
    unfold State.expireChallenge
    repeat' split
    all_goals exact h.congr rfl rfl rfl
  pins h := h.congr rfl rfl rfl
  ess h := h.congr rfl rfl rfl
  noted h := h.congr rfl rfl rfl
  pwr _ h := h.congr rfl rfl rfl
  passes at_ _ h := ⟨h.waiting, fun _ => h.servedOnly (by simp [at_])⟩
  frameStart _ h := h.congr rfl rfl rfl
  earlySync _ h := h.congr (by simp) (by simp) (by simp)
  wordFixed _ _ _ h := h.congr rfl rfl rfl
  slotEnd _ h := h.congr (by simp) (by simp) (by simp)
  timesOut h := h.congr rfl rfl rfl
  runs _ h := h.congr rfl rfl rfl
  converts _ h := completeConversion_keeps sensing trigger _ _ h
  holdConverts h := h.congr rfl rfl rfl
  reports h := lidReport_keeps sensing trigger h
  erases _ := of_eraseStart
  visits _ _ h := by
    refine present ?_ _
    exact h.congr rfl rfl rfl
  finishes _ h := .of_idle (by simpa using h.waiting) (by simp [State.finishRestart])
  starts _ := .of_idle nofun nofun
  lost _ := .of_idle nofun nofun
  cold := .of_idle nofun nofun

/-- Serving leaves the claims and the port, but for the erase start of ZEROIZE. -/
theorem serving {c : Command} (served : s.Serving c t) (h : s.DeskLaw) : t.DeskLaw := by
  cases served with
  | zeroizes => exact h.trigger _
  | arms => exact h.congr (by simp) State.beginLearning_port (by simp)
  | measures => exact h.congr (by simp) State.serveMeasure_port (by simp)
  | leaves => exact h.congr (by simp) (by simp) (by simp)
  | _ => exact h.congr rfl rfl rfl

theorem completeCommand (draw : Block) (h : s.DeskLaw) : (s.completeCommand draw).DeskLaw := by
  rcases s.completeCommand_cases draw with e | ⟨c, r, -, served, e⟩ | ⟨c, status, -, -, -, e⟩
  · rwa [e]
  · rw [e]
    exact finish (h.serving (serve_serving served)).waiting
  · rw [e]
    exact finish h.waiting

/-- A command that the erase check lets pass is one that an erase allows (R92). -/
theorem accept {c : Command} (passes : s.takeRefusal c = none) (h : s.DeskLaw) :
    (s.accept c).DeskLaw := by
  refine ⟨h.waiting, fun erasing d executing => ?_⟩
  have same : c = d := Port.executing.inj executing
  subst same
  cases allowed : c.servedDuringErase with
  | true => rfl
  | false =>
    have refused : s.takeRefusal c = some .erasing := State.takeRefusal_of_erasing erasing allowed
    rw [refused] at passes
    nomatch passes

theorem withDecided (h : s.DeskLaw) {x : Option ConsoleStatus} : (s.withDecided x).DeskLaw :=
  h.congr rfl rfl rfl

theorem claimOrRefuse (h : s.DeskLaw) (x : ConsoleStatus ⊕ Job) : (s.claimOrRefuse x).DeskLaw := by
  cases x with
  | inl status => exact h.withDecided
  | inr job => exact h.withDecided.present job

theorem startCommand {c : Command} (port : s.ci.port = .executing c) (h : s.DeskLaw) :
    (s.startCommand c).DeskLaw := by
  cases decides : c.decidesAtTake with
  | true =>
    cases c with
    | respond =>
      simp only [State.startCommand, State.startRespond]
      split
      · exact h.withDecided
      · refine present ?_ _
        exact h.congr rfl rfl rfl
    | enterComponent | commit => exact h.claimOrRefuse _
    | openCeremony =>
      unfold State.startCommand
      exact h.congr (by simp) State.startOpen_port (by simp)
    | _ => nomatch decides
  | false =>
    cases served : c.actsAtTake with
    | false => exact (State.startCommand_of_waits decides served).symm ▸ h
    | true =>
      cases c with
      | zeroize => exact h.trigger _
      | measureNow =>
        rw [State.startCommand_measureNow port]
        exact finish (h.serving .measures).waiting
      | _ => nomatch served

theorem takeCommand (c : Command) (h : s.DeskLaw) : (s.takeCommand c).DeskLaw := by
  rcases s.takeCommand_cases c with ⟨status, -, e⟩ | ⟨passes, e⟩
  · exact e ▸ finish h.waiting
  · exact e ▸ (h.accept passes).startCommand rfl

theorem portWriteAt (w : WriteTransaction) (h : s.DeskLaw) : (s.portWriteAt w).DeskLaw := by
  rcases s.portWriteAt_cases w with e | ⟨reply, -, ⟨status, e⟩ | ⟨c, -, e⟩⟩
  · rwa [e]
  · exact e ▸ finish h.waiting
  · exact e ▸ h.takeCommand c

theorem completeRespond (h : s.DeskLaw) (result : Block) : (s.completeRespond result).DeskLaw := by
  unfold State.completeRespond
  split
  · split
    · exact h
    · split
      · refine finish ?_
        exact h.waiting
      · refine finish ?_
        simpa using h.waiting
  · exact h

theorem completeComponent (h : s.DeskLaw) (component : Key) (check : CheckValue) :
    (s.completeComponent component check).DeskLaw := by
  unfold State.completeComponent
  split
  · repeat' split
    all_goals
      refine finish ?_
      exact h.waiting
  · exact h

theorem completeCommit (h : s.DeskLaw) (check : CheckValue) : (s.completeCommit check).DeskLaw := by
  unfold State.completeCommit
  split
  · split
    · refine finish ?_
      exact h.waiting
    · refine finish ?_
      simpa using h.waiting
  · exact finish h.waiting
  · exact h

theorem completeCheck (h : s.DeskLaw) (results : List Result) :
    (s.completeCheck results).DeskLaw := by
  unfold State.completeCheck
  split
  · next supply =>
    refine selfCheckFrom_keeps plain.visits plain.finishes _ _ ?_
      (h.congr (by simp) (State.applyCheck_port _ _ _) (by simp))
    simp [supply]
  all_goals exact h

theorem completeClaim (claim : Claim) (h : s.DeskLaw) : (s.completeClaim claim).DeskLaw := by
  have released : (s.withCc s.cc.release).DeskLaw := h.withCc h.waiting
  have delivered : ((s.withCc s.cc.release).deliverResults claim.job).DeskLaw := by
    unfold State.deliverResults
    split
    · exact released.congr (by simp) (by simp) (by simp)
    · exact released.completeRespond _
    · exact released.completeComponent _ _
    · exact released.completeCommit _
    all_goals exact released.completeCheck _
  exact delivered.withCc (delivered.waiting.arbitrate _)

theorem startService {u : State} {c : ChannelNo} {r : Request} (begins : u.startService c r = .next t)
    (h : u.DeskLaw) : t.DeskLaw := by
  rcases State.startService_cases begins with
    ⟨reply, rfl⟩ | ⟨entry, status, rfl⟩ | ⟨body, bound, -, -, rfl⟩
  · exact h.congr rfl rfl rfl
  · exact h.congr (by simp) (State.failRequest_port _ _ _ _ _) (by simp)
  · refine present ?_ _
    exact h.congr (by simp) (by simp [State.chargeEntry]) (by simp)

theorem arm {i : Instr} (arm : s.Arm i t) (h : s.DeskLaw) : t.DeskLaw :=
  plain.arm (fun _ _ begins h => startService begins (h.congr rfl rfl rfl))
    (fun _ h => h.completeClaim _) (fun c draw _ h => (h.takeCommand c).completeCommand draw)
    (fun _ _ h => finish h.waiting) (fun w h => h.portWriteAt w) (fun draw h => h.completeCommand draw) arm h

theorem tick (h : s.DeskLaw) : s.tick.DeskLaw :=
  ⟨h.waiting.operate, h.servedOnly⟩

end State.DeskLaw

/-! ## The law (R21, R32) -/

theorem State.keyLaw_iff (s : State) : s.KeyLaw ↔ s.Material ∧ s.DeskLaw := by
  constructor
  · exact fun h => ⟨⟨h.armedOnly, h.tripped, h.noTransport, h.passed⟩, ⟨h.waiting, h.servedOnly⟩⟩
  · exact fun ⟨m, d⟩ => ⟨m.armedOnly, m.tripped, m.noTransport, m.passed, d.waiting, d.servedOnly⟩

namespace State.Material

variable {s t : State}

/-- A command that a channel's state admits brings no transport key (R54). -/
theorem commanded {n : ChannelNo} {ch : Channel} (commanded : (s.channel n).Commanded ch)
    (h : s.Material) : (s.setChannel n ch).Material :=
  h.ofChannels rfl rfl rfl fun keyless =>
    keyless.setChannel (Channel.Keyless.law.commanded commanded (keyless n))

/-- Serving keeps the law, where ACK_TRIP finds no erase in progress (R132). -/
theorem serving {c : Command} (legal : c = .ackTrip → s.ec.position = none)
    (served : s.Serving c t) (h : s.Material) : t.Material := by
  cases served with
  | entry i e keyless empty => exact h.setEntry keyless empty
  | channel n commanded => exact h.commanded commanded
  | flushed n =>
    exact (h.ofChannels (t := s.mapChannel n Channel.flush) rfl rfl rfl fun keyless =>
      keyless.mapChannel Channel.Keyless.law.flush n).congr rfl rfl (.inl rfl) rfl
  | arms unarmed =>
    have idle := h.position_eq_none (by simp [unarmed])
    have keyless := h.armedOnly idle (by simp [unarmed])
    exact of_noKeys (by simpa using idle) (keyless.congr (by simp) (by simp))
  | disarms armed keyless => exact of_noKeys (h.position_eq_none (by simp [armed])) keyless
  | threshold n =>
    exact h.shrinks ⟨fun _ => id, fun _ => id, fun k => k.congr rfl rfl, .inl rfl, rfl⟩
  | mesh => exact h.congr rfl rfl (.inl (TamperMonitor.configure_state _ _ _ _ _)) rfl
  | acknowledges tripped =>
    have idle := legal rfl
    exact of_noKeys (s := State.withTm _ _) idle (h.armedOnly idle (by simp [tripped]))
  | measures => exact h.congr (by simp) (by simp) State.serveMeasure_state (by simp)
  | leaves => exact h.congr (by simp) (by simp) (.inl (by simp)) (by simp)
  | zeroizes => exact h.trigger _
  | _ => exact h.congr rfl rfl (.inl rfl) rfl

/-- An install finds the monitor ARMED, so keys may stand (R120, R121). -/
theorem install {target : CeremonyTarget} {g : Generation} (armed : s.tm.state = .armed)
    (h : s.Material) : (s.install target g).Material :=
  of_armed (by simpa using h.position_eq_none (by simp [armed])) (by simpa using armed)

theorem completeCommand (desk : s.DeskLaw) (draw : Block) (h : s.Material) :
    (s.completeCommand draw).Material :=
  completeCommand_keeps parts.console (fun {c t} port served h => by
    refine h.serving (fun acknowledges => ?_) served
    subst acknowledges
    exact Classical.byContradiction fun erasing => nomatch desk.servedOnly erasing _ port) draw h

theorem acts {c : Command} (acts : c.actsAtTake = true) (served : s.Serving c t) (h : s.Material) :
    t.Material :=
  h.serving (fun acknowledges => by subst acknowledges; nomatch acts) served

theorem arm {i : Instr} (desk : s.DeskLaw) (arm : s.Arm i t) (h : s.Material) : t.Material :=
  parts.arm install
    (fun c draw h => (takeCommand_keeps parts.console acts c h).completeCommand
      (desk.takeCommand c) draw)
    (fun w h => portWriteAt_keeps parts.console acts w h)
    (fun draw h => h.completeCommand desk draw) arm h

end State.Material

/-- Settles O6: the three parts of the law, of which the keys rest on what may be in progress at the
port during an erase. -/
theorem keysStandOnlyWhileArmed : Obligations.KeysStandOnlyWhileArmed := by
  have kept : Kept fun s => s.Material ∧ s.DeskLaw :=
    .of_exec (fun _ _ ⟨m, d⟩ => ⟨m.congr rfl rfl (.inl rfl) rfl, d.congr rfl rfl rfl⟩)
      (fun _ ⟨m, d⟩ => ⟨m.congr rfl rfl (.inl rfl) rfl, d.tick⟩)
      (fun arm ⟨m, d⟩ => ⟨m.arm d arm, d.arm arm⟩)
  exact fun s t h next => (t.keyLaw_iff).mpr (kept s t ((s.keyLaw_iff).mp h) next)

end Sys2Proof.Machine

/-! The law of the presence list, its window, the ceremony context and the command in progress (R35,
R90, R93, R101, R102, R112). -/

namespace Sys2Proof.Machine

/-! ## Who is present (R101, R102, R112) -/

/-- The part of the law that reads the presence list, the custodian table, the window and the ceremony
context. -/
structure State.Attended (s : State) : Prop where
  most : s.ci.presence.length ≤ 3
  once : s.ci.presence.Nodup
  enrolled : ∀ c ∈ s.ci.presence, (s.custodian c).state = .enrolled
  window : s.ci.window.running = true ↔ s.ci.presence ≠ []
  two : s.cec ≠ none → 2 ≤ s.ci.presence.length

/-- What of the console the law reads. -/
def CustodianInterface.desk (ci : CustodianInterface) :
    Port × Option ConsoleStatus × List CustodianNo × Vector Custodian 8 × Bool :=
  (ci.port, ci.decided, ci.presence, ci.custodians, ci.window.running)

namespace State.Attended

variable {s t : State}

/-- The list, the table, the window's run and the context stand. -/
theorem congr (h : s.Attended) (presence : t.ci.presence = s.ci.presence)
    (custodians : t.ci.custodians = s.ci.custodians)
    (running : t.ci.window.running = s.ci.window.running) (cec : t.cec = s.cec) : t.Attended := by
  constructor
  · exact presence ▸ h.most
  · exact presence ▸ h.once
  · intro c present
    rw [State.custodian_congr custodians]
    exact h.enrolled c (presence ▸ present)
  · rw [running, presence]
    exact h.window
  · rw [cec, presence]
    exact h.two

/-- With nobody present nothing is left to hold. -/
theorem of_nobody (presence : s.ci.presence = []) (stopped : s.ci.window.running = false)
    (cec : s.cec = none) : s.Attended := by
  constructor <;> simp [presence, stopped, cec]

/-- Custodians leave: the window stops with the last, the context ends below two (R101). -/
theorem shrink {after : List CustodianNo} (h : s.Attended) (within : after.Sublist s.ci.presence) :
    (s.shrinkPresence after).Attended := by
  have presence : (s.shrinkPresence after).ci.presence = after := s.shrinkPresence_presence after
  have custodians : (s.shrinkPresence after).ci.custodians = s.ci.custodians := by
    unfold State.shrinkPresence
    dsimp only
    split <;> rfl
  have window : (s.shrinkPresence after).ci.window =
      if after.isEmpty then s.ci.window.stop else s.ci.window := by
    unfold State.shrinkPresence
    dsimp only
    split <;> rfl
  constructor
  · rw [presence]
    exact within.length_le.trans h.most
  · rw [presence]
    exact h.once.sublist within
  · intro c present
    rw [State.custodian_congr custodians]
    exact h.enrolled c (within.subset (presence ▸ present))
  · rw [window, presence]
    cases after with
    | nil => simp [PresenceWindow.stop]
    | cons c rest => simpa using h.window.mpr (List.ne_nil_of_mem (within.subset List.mem_cons_self))
  · rw [State.shrinkPresence_cec, presence]
    intro context
    split at context
    · exact absurd rfl context
    · next kept =>
      have before := h.two context
      omega

theorem expireWindow (h : s.Attended) : s.expireWindow.Attended :=
  (h.shrink (List.nil_sublist _)).congr rfl rfl rfl rfl

theorem finish {status : ConsoleStatus} {body : List Byte} (h : s.Attended) :
    (s.finish status body).Attended := by
  unfold State.finish
  dsimp only
  split
  · refine expireWindow ?_
    exact h.congr rfl rfl rfl rfl
  · exact h.congr rfl rfl rfl rfl

/-- A custodian joins the tail; the first starts the window (R101, R102). -/
theorem join {c : CustodianNo} (h : s.Attended) (enrolled : (s.custodian c).state = .enrolled)
    (absent : c ∉ s.ci.presence) (room : s.ci.presence.length < 3) : (s.joinPresence c).Attended where
  most := by
    simp only [State.joinPresence, State.withCi_ci, List.length_append, List.length_singleton]
    omega
  once := by
    simp only [State.joinPresence, State.withCi_ci]
    exact List.nodup_append.mpr ⟨h.once, List.nodup_singleton c, fun a present b new => by
      rw [List.mem_singleton.mp new]
      exact fun same => absent (same ▸ present)⟩
  enrolled d present := by
    rw [State.custodian_congr (s := s) (by rfl)]
    rcases List.mem_append.mp present with before | new
    · exact h.enrolled d before
    · exact List.mem_singleton.mp new ▸ enrolled
  window := by
    simp only [State.joinPresence, State.withCi_ci]
    split
    · simp [PresenceWindow.start]
    · next some_ =>
      simpa using h.window.mpr (by simpa using some_)
  two context := by
    have before := h.two context
    simp only [State.joinPresence, State.withCi_ci, List.length_append]
    omega

/-- A record changes that stays ENROLLED if it is present. -/
theorem setCustodian {c : CustodianNo} {r : Custodian} (h : s.Attended)
    (enrolled : c ∈ s.ci.presence → r.state = .enrolled) : (s.setCustodian c r).Attended where
  most := h.most
  once := h.once
  enrolled d present := by
    rw [State.custodian_setCustodian]
    split
    · next same => exact enrolled (same ▸ present)
    · exact h.enrolled d present
  window := h.window
  two := h.two

theorem raiseIf {b : Bool} {e : Event} (h : s.Attended) : (s.raiseIf b e).Attended := by
  unfold State.raiseIf
  split
  · exact h.congr rfl rfl rfl rfl
  · exact h

/-- A record that is not ENROLLED belongs to nobody present. -/
theorem absent {c : CustodianNo} (h : s.Attended) (other : (s.custodian c).state ≠ .enrolled) :
    c ∉ s.ci.presence :=
  fun present => other (h.enrolled c present)

theorem withCec_none (h : s.Attended) : (s.withCec none).Attended :=
  ⟨h.most, h.once, h.enrolled, h.window, fun context => absurd rfl context⟩

/-- Serving keeps who is present lawful, but for ZEROIZE, which is served at its take (R172). -/
theorem serving {c : Command} (other : c ≠ .zeroize) (served : s.Serving c t) (h : s.Attended) :
    t.Attended := by
  cases served with
  | zeroizes => exact absurd rfl other
  | arms => 
    unfold State.beginLearning
    dsimp only
    split <;> exact h.congr rfl rfl rfl rfl
  | measures =>
    unfold State.serveMeasure
    dsimp only [served]
    split <;> exact h.congr rfl rfl rfl rfl
  | leaves => exact h.shrink List.erase_sublist
  | enrols n r vacant => exact h.setCustodian fun present => absurd present (h.absent (by simp [vacant]))
  | removes n absent => exact h.setCustodian fun present => absurd present absent
  | unlocks n locked => exact h.setCustodian fun _ => rfl
  | cancels => exact h.withCec_none
  | _ => exact h.congr rfl rfl rfl rfl

end State.Attended

/-! ## The law -/

theorem Command.actsAtTake_of_decides {c : Command} (decides : c.decidesAtTake = true) :
    c.actsAtTake = false := by
  cases c with
  | zeroize | measureNow => nomatch decides
  | _ => rfl

theorem Command.decidesAtTake_of_claim {c : Command} (makes : c.makesClaim = true) :
    c.decidesAtTake = true := by
  cases c with
  | respond | enterComponent | commit => rfl
  | _ => nomatch makes

/-- A command that an owner serves makes no claim (R124). -/
theorem Command.makesClaim_of_served {s : State} {c : Command} {draw : Block} {r : Served}
    (serves : s.serve c draw = some r) : c.makesClaim = false := by
  cases c with
  | respond | enterComponent | commit => nomatch serves
  | _ => rfl

/-- Serving touches neither the claims nor the supply state, but for ZEROIZE (R172). -/
theorem State.Serving.claims {s t : State} {c : Command} (other : c ≠ .zeroize)
    (served : s.Serving c t) : t.cc = s.cc ∧ t.pwr = s.pwr := by
  cases served with
  | zeroizes => exact absurd rfl other
  | arms => simp
  | measures => simp
  | leaves => simp
  | _ => exact ⟨rfl, rfl⟩

/-- A command of presence class two that is accepted finds two custodians present (R92). -/
theorem State.two_of_takeRefusal {s : State} {c : Command} (passes : s.takeRefusal c = none)
    (two : c.presenceClass = .two) (known : s.freshPart c = false) : 2 ≤ s.ci.presence.length := by
  unfold State.takeRefusal at passes
  split at passes
  · nomatch passes
  · simp only [State.presenceRefusal, known, two, Bool.false_eq_true, if_false] at passes
    rcases present : s.ci.presence with _ | ⟨first, _ | ⟨second, rest⟩⟩
    · simp [present] at passes
    · simp [present] at passes
    · exact Nat.le_add_left 2 rest.length

theorem State.applyCheck_desk (p : CheckPosition) (results : List Result) (s : State) :
    (s.applyCheck p results).ci.desk = s.ci.desk := by
  unfold State.applyCheck State.raiseIf
  split <;> dsimp only <;> split <;> rfl

namespace State.PresenceLaw

variable {s t : State}

theorem attended (h : s.PresenceLaw) : s.Attended :=
  ⟨h.most, h.once, h.enrolled, h.window, h.two⟩

/-- What the law reads stands; the claims may change their order. -/
theorem congr (h : s.PresenceLaw) (ci : t.ci.desk = s.ci.desk) (cec : t.cec = s.cec)
    (claims : t.cc.consoleClaims.Perm s.cc.consoleClaims) (supply : t.pwr.supply = s.pwr.supply) :
    t.PresenceLaw := by
  simp only [CustodianInterface.desk, Prod.mk.injEq] at ci
  obtain ⟨port, decided, presence, custodians, running⟩ := ci
  have a := h.attended.congr presence custodians running cec
  refine ⟨a.most, a.once, a.enrolled, a.window, a.two, ?_, ?_, ?_, ?_, ?_, ?_⟩
  · intro n r c
    rw [port, decided, presence, State.custodian_congr custodians]
    exact h.joins n r c
  · rw [port]
    exact h.acted
  · rw [port, decided]
    exact h.decided
  · rw [port, decided]
    exact h.checked
  · rw [port, decided, claims.length_eq]
    exact fun standing => h.claimed fun none => standing (List.perm_nil.mp (none ▸ claims))
  · rw [port, supply]
    exact h.off

/-- With no command in progress and no claim of the console, who is present is all there is to hold. -/
theorem of_quiet (attended : s.Attended) (idle : ∀ c, s.ci.port ≠ .executing c)
    (decided : s.ci.decided = none) (quiet : s.cc.consoleClaims = [])
    (off : s.pwr.supply ≠ .normal → s.ci.port = .off ∨ s.ci.port = .starting) : s.PresenceLaw where
  most := attended.most
  once := attended.once
  enrolled := attended.enrolled
  window := attended.window
  two := attended.two
  joins _ _ _ port := absurd port (idle _)
  acted c port := absurd port (idle c)
  decided made := absurd decided made
  checked _ _ _ _ _ _ _ _ port := absurd port (idle _)
  claimed standing := absurd quiet standing
  off := off

/-- A command in progress with its outcome decided, and no claim of the console. -/
theorem of_decided {c : Command} {status : ConsoleStatus} (attended : s.Attended)
    (port : s.ci.port = .executing c) (decides : c.decidesAtTake = true)
    (decided : s.ci.decided = some status) (quiet : s.cc.consoleClaims = [])
    (normal : s.pwr.supply = .normal) : s.PresenceLaw where
  most := attended.most
  once := attended.once
  enrolled := attended.enrolled
  window := attended.window
  two := attended.two
  joins _ _ _ _ undecided := by simp [decided] at undecided
  acted d executing := by
    have same : c = d := Port.executing.inj (port.symm.trans executing)
    subst same
    exact Command.actsAtTake_of_decides decides
  decided _ := ⟨c, port, decides⟩
  checked _ _ _ _ _ _ _ _ _ := by simp [decided]
  claimed standing := absurd quiet standing
  off other := absurd normal other

/-- The port holds a frame or a command: the part is in NORMAL (R90). -/
theorem normal (h : s.PresenceLaw) (on : s.ci.port ≠ .off) (started : s.ci.port ≠ .starting) :
    s.pwr.supply = .normal :=
  Classical.byContradiction fun other => (h.off other).elim on started

/-- Without a command that makes a claim in progress, no claim of the console stands. -/
theorem quiet (h : s.PresenceLaw) (idle : ∀ c, s.ci.port = .executing c → c.makesClaim = false) :
    s.cc.consoleClaims = [] :=
  Classical.byContradiction fun standing => by
    obtain ⟨-, -, c, port, makes⟩ := h.claimed standing
    rw [idle c port] at makes
    nomatch makes

theorem undecided (h : s.PresenceLaw) (idle : ∀ c, s.ci.port ≠ .executing c) : s.ci.decided = none :=
  Classical.byContradiction fun made => by
    obtain ⟨c, port, -⟩ := h.decided made
    exact idle c port

/-- A completion leaves who is present (R93, R103). -/
theorem finish {status : ConsoleStatus} {body : List Byte} (attended : s.Attended)
    (quiet : s.cc.consoleClaims = []) (normal : s.pwr.supply = .normal) :
    (s.finish status body).PresenceLaw :=
  of_quiet attended.finish (by simp) (by simp) (by simpa using quiet)
    (fun other => absurd normal (by simpa using other))

theorem expireWindow (h : s.PresenceLaw) (idle : ∀ c, s.ci.port ≠ .executing c) :
    s.expireWindow.PresenceLaw :=
  of_quiet h.attended.expireWindow (by simpa using idle) (by simpa using h.undecided idle)
    (by simpa using h.quiet fun c port => absurd port (idle c)) (by simpa using h.off)

theorem windowAtZero (h : s.PresenceLaw) : s.windowAtZero.PresenceLaw := by
  unfold State.windowAtZero
  split
  · exact h.congr rfl rfl .rfl rfl
  · next idle =>
    refine h.expireWindow fun c port => idle ?_
    unfold State.executing
    rw [port]

theorem tickWindow (h : s.PresenceLaw) : s.tickWindow.PresenceLaw := by
  unfold State.tickWindow
  split
  · dsimp only
    split
    · refine windowAtZero ?_
      exact h.congr rfl rfl .rfl rfl
    · exact h.congr rfl rfl .rfl rfl
  · exact h

/-- An erase start empties the list and ends the command in progress (R110, R172). -/
theorem of_eraseStart {cause : Cause}
    (off : s.pwr.supply ≠ .normal → s.ci.port = .off ∨ s.ci.port = .starting) :
    (s.eraseStart cause).PresenceLaw := by
  refine of_quiet (.of_nobody (by simp) rfl (by simp)) (fun c => ?_) (by simp) (by simp) fun other => ?_
  · rw [State.eraseStart_port]
    exact Port.eraseStart_not_executing _ c
  · rw [State.eraseStart_port]
    have before : s.pwr.supply ≠ .normal := fun normal => other (by
      simp [State.eraseStart, State.eraseCheck, normal, Supply.eraseStart])
    rcases off before with port | port
    · exact .inl (by rw [port]; rfl)
    · exact .inr (by rw [port]; rfl)

theorem trigger (cause : Cause) (h : s.PresenceLaw) : (s.trigger cause).PresenceLaw :=
  trigger_keeps (P := State.PresenceLaw) (fun h => of_eraseStart h.off)
    (fun h => h.congr rfl rfl .rfl rfl) cause h

theorem sensing (o : s.SensingOnly t) (h : s.PresenceLaw) : t.PresenceLaw :=
  h.congr (by rw [o.ci]; rfl) o.cec (by rw [o.cc]) (by rw [o.pwr])

/-- A claim of another claimant than the console's (R35). -/
theorem present {job : Job} (other : job.custodianSide = false) (h : s.PresenceLaw) :
    (s.presentClaim job).PresenceLaw := by
  refine h.congr rfl rfl ?_ rfl
  have perm := CipherCore.consoleClaims_present job s.cc
  rw [other] at perm
  exact perm

theorem custodianSide_of_pwr {job : Job} (claimant : job.claimant = .pwr) :
    job.custodianSide = false := by
  unfold Job.custodianSide
  rw [claimant]
  rfl

theorem loseWork {port : Port} (off : port = .off ∨ port = .starting) :
    (s.loseWork port).PresenceLaw := by
  refine of_quiet (.of_nobody rfl rfl rfl) (fun c executing => ?_) rfl rfl fun _ => off
  have same : port = .executing c := executing
  rcases off with rfl | rfl <;> nomatch same

/-- The end of a restart makes the port READY (R187). -/
theorem finishRestart {cold : Bool} (restarting : s.pwr.supply ≠ .normal) (h : s.PresenceLaw) :
    (s.finishRestart cold).PresenceLaw := by
  have idle (c : Command) (port : s.ci.port = .executing c) : False := by
    rcases h.off restarting with off | off <;> rw [off] at port <;> nomatch port
  have quiet := h.quiet fun c port => (idle c port).elim
  refine of_quiet ?_ nofun ?_ (by simpa using quiet) fun other => absurd rfl other
  · unfold State.finishRestart State.raiseIf
    split <;> exact h.attended.congr rfl rfl rfl rfl
  · unfold State.finishRestart State.raiseIf
    split <;> exact h.undecided fun c port => idle c port

theorem visit {p : CheckPosition} {cold : Bool} {job : Job} (claimant : job.claimant = .pwr)
    (restarting : s.pwr.supply ≠ .normal) (h : s.PresenceLaw) :
    (s.visit p cold job).PresenceLaw := by
  refine present (custodianSide_of_pwr claimant) ?_
  have off := h.off restarting
  have idle (c : Command) (port : s.ci.port = .executing c) : False := by
    rcases off with off | off <;> rw [off] at port <;> nomatch port
  exact of_quiet (h.attended.congr rfl rfl rfl rfl) (fun c port => idle c port)
    (h.undecided fun c port => idle c port) (h.quiet fun c port => (idle c port).elim) fun _ => off

theorem plain : State.Plain State.PresenceLaw where
  raises h := h.congr rfl rfl .rfl rfl
  ticks h := h.tickWindow
  windowEnds h := h.windowAtZero
  challengeEnds h := by
    unfold State.expireChallenge
    repeat' split
    all_goals exact h.congr rfl rfl .rfl rfl
  pins h := h.congr rfl rfl .rfl rfl
  ess h := h.congr rfl rfl .rfl rfl
  noted h := h.congr rfl rfl .rfl rfl
  pwr supply h := h.congr rfl rfl .rfl supply
  passes _ _ h := h.congr rfl rfl .rfl rfl
  frameStart _ h := h.congr rfl rfl .rfl rfl
  earlySync _ h := h.congr (by simp) (by simp) (by simp) (by simp)
  wordFixed _ _ _ h := h.congr rfl rfl .rfl rfl
  slotEnd _ h := h.congr (by simp) (by simp) (by simp) (by simp)
  timesOut h := h.congr rfl rfl .rfl rfl
  runs _ h := h.congr rfl rfl .rfl rfl
  converts _ h := completeConversion_keeps sensing trigger _ _ h
  holdConverts h := h.congr rfl rfl .rfl rfl
  reports h := lidReport_keeps sensing trigger h
  erases h := of_eraseStart h.off
  visits claimant restarting h := h.visit claimant restarting
  finishes restarting h := h.finishRestart restarting
  starts {s} _ := by
    have lost : (s.loseWork .starting).PresenceLaw := loseWork (.inr rfl)
    exact of_quiet (lost.attended.congr rfl rfl rfl rfl) nofun rfl rfl fun _ => .inr rfl
  lost {s} _ := by
    have lost : (s.loseWork .off).PresenceLaw := loseWork (.inl rfl)
    exact of_quiet (lost.attended.congr rfl rfl rfl rfl) nofun rfl rfl fun _ => .inl rfl
  cold {pins _} := (State.cold_presenceLaw (pins := pins)).congr rfl rfl .rfl rfl

/-! ## Commands (R92, R93) -/

theorem completeCommand (draw : Block) (h : s.PresenceLaw) :
    (s.completeCommand draw).PresenceLaw := by
  rcases s.completeCommand_cases draw with
    e | ⟨c, r, port, served, e⟩ | ⟨c, status, port, -, decided, e⟩
  · rwa [e]
  · have normal := h.normal (by simp [port]) (by simp [port])
    have quiet := h.quiet fun d executing => by
      cases port.symm.trans executing
      exact Command.makesClaim_of_served served
    have other : c ≠ .zeroize := fun same => by
      have acted := h.acted c port
      rw [same] at acted
      nomatch acted
    rw [e]
    have kept := serve_serving served
    refine finish (h.attended.serving other kept) ?_ ?_
    · rw [(kept.claims other).1]
      exact quiet
    · rw [(kept.claims other).2]
      exact normal
  · have normal := h.normal (by simp [port]) (by simp [port])
    have quiet : s.cc.consoleClaims = [] := Classical.byContradiction fun standing => by
      have undecided := (h.claimed standing).2.1
      rw [decided] at undecided
      nomatch undecided
    rw [e]
    exact finish h.attended quiet normal

/-- A claim of the command in progress is the only one of the console (R35, R93). -/
theorem of_claim {c : Command} {job : Job} (attended : s.Attended)
    (port : s.ci.port = .executing c) (makes : c.makesClaim = true) (undecided : s.ci.decided = none)
    (quiet : s.cc.consoleClaims = []) (normal : s.pwr.supply = .normal)
    (console : job.custodianSide = true)
    (joins : ∀ n r d, c = .respond n r → custodianNo? n = some d →
      (s.custodian d).state = .enrolled ∧ d ∉ s.ci.presence ∧ s.ci.presence.length < 3) :
    (s.presentClaim job).PresenceLaw where
  most := attended.most
  once := attended.once
  enrolled := attended.enrolled
  window := attended.window
  two := attended.two
  joins n r d executing _ named := joins n r d (Port.executing.inj (port.symm.trans executing)) named
  acted d executing := by
    have same : c = d := Port.executing.inj (port.symm.trans executing)
    subst same
    exact Command.actsAtTake_of_decides (Command.decidesAtTake_of_claim makes)
  decided made := absurd undecided made
  checked _ _ _ _ _ _ _ _ executing := by
    have same := Port.executing.inj (port.symm.trans executing)
    subst same
    nomatch makes
  claimed _ := by
    have perm := CipherCore.consoleClaims_present job s.cc
    rw [console, quiet] at perm
    exact ⟨perm.length_eq, undecided, c, port, makes⟩
  off other := absurd normal other

/-- RESPOND's checks pass only a custodian that may join (R100). -/
theorem joins_of_respondJob {n : Byte} {job : Job} (passes : s.respondJob n = .inr job) :
    job.custodianSide = true ∧ ∀ d, custodianNo? n = some d →
      (s.custodian d).state = .enrolled ∧ d ∉ s.ci.presence ∧ s.ci.presence.length < 3 := by
  unfold State.respondJob at passes
  repeat' split at passes
  all_goals cases passes
  next named _ _ _ _ enrolled may =>
    refine ⟨rfl, fun d same => ?_⟩
    cases named.symm.trans same
    exact ⟨enrolled, fun present => may (.inl present), Nat.lt_of_not_le fun full => may (.inr full)⟩

theorem componentJob_custodianSide {n : Byte} {x y : Block} {job : Job}
    (passes : s.componentJob n x y = .inr job) : job.custodianSide = true := by
  unfold State.componentJob at passes
  repeat' split at passes
  all_goals cases passes
  rfl

theorem commitJob_custodianSide {job : Job} (passes : s.commitJob = .inr job) :
    job.custodianSide = true := by
  unfold State.commitJob at passes
  repeat' split at passes
  all_goals cases passes
  rfl

/-- The checks of OPEN_CEREMONY leave the console, and create a context at most (R115). -/
theorem serveOpen_attended {kind target generation components : Byte} {issuer : IssuerTag}
    {rights labelLength : Byte} {label : List Byte} (two : 2 ≤ s.ci.presence.length)
    (h : s.Attended) :
    (s.serveOpen kind target generation components issuer rights labelLength label).state.Attended := by
  unfold State.serveOpen
  repeat' split
  all_goals exact ⟨h.most, h.once, h.enrolled, h.window, fun _ => two⟩

/-- What an accepted command does at its take, on a console where it is just in progress. -/
theorem startCommand {c : Command} (attended : s.Attended) (port : s.ci.port = .executing c)
    (undecided : s.ci.decided = none) (quiet : s.cc.consoleClaims = [])
    (normal : s.pwr.supply = .normal) (idle : c = .zeroize → s.ec.position = none)
    (two : c.presenceClass = .two → s.freshPart c = false → 2 ≤ s.ci.presence.length) :
    (s.startCommand c).PresenceLaw := by
  have decides {status : ConsoleStatus} (makes : c.decidesAtTake = true) :
      (s.withDecided (some status)).PresenceLaw :=
    of_decided (c := c) (attended.congr rfl rfl rfl rfl) port makes rfl quiet normal
  cases makes : c.decidesAtTake with
  | true =>
    cases c with
    | respond n r =>
      simp only [State.startCommand, State.startRespond]
      split
      · exact decides rfl
      · next job passes =>
        obtain ⟨console, joins⟩ := joins_of_respondJob passes
        refine of_claim (c := .respond n r) ?_ port rfl rfl quiet normal console ?_
        · exact attended.congr rfl rfl rfl rfl
        · intro m r d same named
          cases same
          exact joins d named
    | enterComponent n x y v =>
      simp only [State.startCommand, State.claimOrRefuse]
      split
      · exact decides rfl
      · next job passes =>
        exact of_claim (c := .enterComponent n x y v) (attended.congr rfl rfl rfl rfl) port rfl rfl
          quiet normal (componentJob_custodianSide passes) nofun
    | commit v =>
      simp only [State.startCommand, State.claimOrRefuse]
      split
      · exact decides rfl
      · next job passes =>
        exact of_claim (c := .commit v) (attended.congr rfl rfl rfl rfl) port rfl rfl
          quiet normal (commitJob_custodianSide passes) nofun
    | openCeremony =>
      simp only [State.startCommand, State.startOpen]
      refine of_decided ((serveOpen_attended (two rfl rfl) attended).congr rfl rfl rfl rfl) ?_ makes rfl
        ?_ ?_
      · simpa using port
      · simpa using quiet
      · simpa using normal
    | _ => nomatch makes
  | false =>
    cases acts : c.actsAtTake with
    | false =>
      rw [State.startCommand_of_waits makes acts]
      refine ⟨attended.most, attended.once, attended.enrolled, attended.window, attended.two,
        fun n r d executing => ?_, fun d executing => ?_, fun made => absurd undecided made,
        fun _ _ _ _ _ _ _ _ executing => ?_, fun standing => absurd quiet standing,
        fun other => absurd normal other⟩
      all_goals
        have same := Port.executing.inj (port.symm.trans executing)
        subst same
      · nomatch makes
      · exact acts
      · nomatch makes
    | true =>
      cases c with
      | zeroize =>
        simp only [State.startCommand, State.trigger_idle _ s (idle rfl)]
        exact of_eraseStart fun other => absurd normal other
      | measureNow =>
        rw [State.startCommand_measureNow port]
        exact finish (attended.serving (c := .measureNow) nofun .measures) (by simpa using quiet)
          (by simpa using normal)
      | _ => nomatch acts

/-- A READY port takes a command, or refuses it (R92). -/
theorem takeCommand {reply : Option ReplyFrame} (c : Command) (port : s.ci.port = .ready reply)
    (h : s.PresenceLaw) : (s.takeCommand c).PresenceLaw := by
  have free (d : Command) : s.ci.port ≠ .executing d := by simp [port]
  have quiet := h.quiet fun d executing => absurd executing (free d)
  have normal := h.normal (by simp [port]) (by simp [port])
  rcases s.takeCommand_cases c with ⟨status, -, e⟩ | ⟨passes, e⟩
  · exact e ▸ finish h.attended quiet normal
  · rw [e]
    refine startCommand ?_ rfl (h.undecided free) quiet normal (fun zeroizes => ?_) fun two known => ?_
    · refine h.attended.congr rfl rfl ?_ rfl
      unfold State.accept
      dsimp only [State.withCi_ci]
      split
      · unfold PresenceWindow.restart
        split <;> simp [*]
      · rfl
    · refine Classical.byContradiction fun erasing => ?_
      have refused : s.takeRefusal c = some .erasing :=
        State.takeRefusal_of_erasing erasing (by rw [zeroizes]; rfl)
      rw [refused] at passes
      nomatch passes
    · exact State.two_of_takeRefusal passes two known

theorem portWriteAt (w : WriteTransaction) (h : s.PresenceLaw) : (s.portWriteAt w).PresenceLaw := by
  rcases s.portWriteAt_cases w with e | ⟨reply, port, ⟨status, e⟩ | ⟨c, -, e⟩⟩
  · rwa [e]
  · have free (d : Command) : s.ci.port ≠ .executing d := by simp [port]
    exact e ▸ finish h.attended (h.quiet fun d executing => absurd executing (free d))
      (h.normal (by simp [port]) (by simp [port]))
  · exact e ▸ h.takeCommand c port

/-! ## Claims (R36, R100, R117, R120) -/

/-- The current claim leaves: another of the console's does not stand beside one that was (R35). -/
theorem release {claim : Claim} (current : s.cc.current = some claim) (h : s.PresenceLaw) :
    (s.withCc s.cc.release).PresenceLaw := by
  have claims := CipherCore.consoleClaims_release s.cc claim current
  refine ⟨h.most, h.once, h.enrolled, h.window, h.two, h.joins, h.acted, h.decided, h.checked,
    fun standing => ?_, h.off⟩
  obtain ⟨one, rest⟩ := h.claimed (by rw [claims]; exact List.append_ne_nil_of_right_ne_nil _ standing)
  refine ⟨?_, rest⟩
  rw [claims, List.length_append] at one
  have some_ : 0 < s.cc.release.consoleClaims.length := List.length_pos_of_ne_nil standing
  change s.cc.release.consoleClaims.length = 1
  omega

/-- A claim of the console leaves none behind, and its command's outcome is open (R35, R93). -/
theorem released {claim : Claim} (current : s.cc.current = some claim)
    (console : claim.job.custodianSide = true) (h : s.PresenceLaw) :
    s.cc.release.consoleClaims = [] ∧ s.ci.decided = none := by
  have claims := CipherCore.consoleClaims_release s.cc claim current
  rw [console, if_pos rfl] at claims
  obtain ⟨one, undecided, -⟩ := h.claimed (by simp [claims])
  rw [claims] at one
  exact ⟨List.length_eq_zero_iff.mp (by simpa using one), undecided⟩

section Deliver

variable (quiet : s.cc.consoleClaims = []) (h : s.PresenceLaw)

include quiet h

theorem completeRespond (undecided : s.ci.decided = none) (result : Block) :
    (s.completeRespond result).PresenceLaw := by
  unfold State.completeRespond
  split
  · next n response port =>
    have normal := h.normal (by simp [port]) (by simp [port])
    split
    · exact h
    · next c named =>
      obtain ⟨enrolled, absent, room⟩ := h.joins n response c port undecided named
      split
      · refine finish (State.Attended.join (h.attended.setCustodian fun _ => enrolled) ?_ absent room)
          quiet normal
        rw [State.custodian_setCustodian, if_pos rfl]
        exact enrolled
      · refine finish ?_ (by simpa using quiet) (by simpa using normal)
        exact (h.attended.setCustodian fun present => absurd present absent).raiseIf
  · exact h

theorem completeComponent (component : Key) (check : CheckValue) :
    (s.completeComponent component check).PresenceLaw := by
  unfold State.completeComponent
  split
  · next port =>
    have normal := h.normal (by simp [port]) (by simp [port])
    split
    · exact finish h.attended quiet normal
    · split
      · next context =>
        refine finish ?_ quiet normal
        exact ⟨h.most, h.once, h.enrolled, h.window, fun _ => h.two (by simp [context])⟩
      all_goals exact finish h.attended quiet normal
  · exact h

theorem completeCommit (check : CheckValue) : (s.completeCommit check).PresenceLaw := by
  unfold State.completeCommit
  split
  · next port _ =>
    have normal := h.normal (by simp [port]) (by simp [port])
    split
    · exact finish h.attended.withCec_none quiet normal
    · refine finish (State.Attended.withCec_none ?_) (by simpa using quiet) (by simpa using normal)
      exact h.attended.congr (by simp) (by simp) (by simp) (by simp)
  · next port _ =>
    exact finish h.attended quiet (h.normal (by simp [port]) (by simp [port]))
  · exact h

end Deliver

theorem completeCheck (results : List Result) (h : s.PresenceLaw) :
    (s.completeCheck results).PresenceLaw := by
  unfold State.completeCheck
  split
  · next supply =>
    refine selfCheckFrom_keeps plain.visits plain.finishes _ _ (by simp [supply]) ?_
    exact h.congr (State.applyCheck_desk _ _ _) (by simp) (by simp) (by simp)
  all_goals exact h

/-- A claim completes (R36). -/
theorem completeClaim {claim : Claim} (current : s.cc.current = some claim) (h : s.PresenceLaw) :
    (s.completeClaim claim).PresenceLaw := by
  have kept := h.release current
  have delivered : ((s.withCc s.cc.release).deliverResults claim.job).PresenceLaw := by
    have console := h.released current
    cases job : claim.job with
    | derive =>
      unfold State.deliverResults
      exact kept.congr (by simp) (by simp) (by simp) (by simp)
    | respond =>
      obtain ⟨quiet, undecided⟩ := console (by rw [job]; rfl)
      exact completeRespond quiet kept undecided _
    | component => exact completeComponent (console (by rw [job]; rfl)).1 kept _ _
    | commit => exact completeCommit (console (by rw [job]; rfl)).1 kept _
    | checkEntry | checkTransport => exact kept.completeCheck _
  exact delivered.congr rfl rfl (CipherCore.consoleClaims_arbitrate _ _) rfl

theorem startService {u : State} {c : ChannelNo} {r : Request} (begins : u.startService c r = .next t)
    (h : u.PresenceLaw) : t.PresenceLaw := by
  rcases State.startService_cases begins with
    ⟨reply, rfl⟩ | ⟨entry, status, rfl⟩ | ⟨body, bound, -, -, rfl⟩
  · exact h.congr rfl rfl .rfl rfl
  · refine h.congr ?_ (by simp) (by simp) (by simp)
    unfold State.failRequest
    dsimp only
    split <;> rfl
  · refine present rfl ?_
    refine h.congr ?_ (by simp) (by simp) (by simp)
    unfold State.chargeEntry State.raiseIf
    dsimp only
    split <;> rfl

theorem arm {i : Instr} (arm : s.Arm i t) (h : s.PresenceLaw) : t.PresenceLaw :=
  plain.arm (fun _ _ begins h => startService begins (h.congr rfl rfl .rfl rfl))
    (fun current h => h.completeClaim current)
    (fun c draw port h => (h.takeCommand c port).completeCommand draw)
    (fun status port h => by
      have free (d : Command) : s.ci.port ≠ .executing d := by simp [port]
      exact finish h.attended (h.quiet fun d executing => absurd executing (free d))
        (h.normal (by simp [port]) (by simp [port])))
    (fun w h => h.portWriteAt w) (fun draw h => h.completeCommand draw) arm h

end State.PresenceLaw

/-- Settles O10: each operation on the console keeps the law, given what may be in progress there. -/
theorem presenceStaysLawful : Obligations.PresenceStaysLawful :=
  .of_exec (fun _ _ h => h.congr rfl rfl .rfl rfl)
    (fun _ h => h.congr rfl rfl (by rw [State.tick, CipherCore.consoleClaims_operate]) rfl)
    (fun arm h => h.arm arm)

end Sys2Proof.Machine

/-! Rules of the whole part: the cabinet seconds (R184), the erase pass and its record (R173, R177), and
the rows of the console commands (assumption log 4). -/

namespace Sys2Proof.Machine

/-! ## Cabinet seconds (R102, R165, R184) -/

section Seconds

variable {s t : State} {n : Seconds}

theorem State.withChallenge_self {x : Option Challenge} (same : x = s.ci.challenge) :
    s.withCi { s.ci with challenge := x } = s := by
  subst same
  rfl

/-- A challenge lives while its drawing reading plus 60 is not the count that stands (R99). -/
theorem State.expireChallenge_eq (s : State) :
    s.expireChallenge = s.withCi { s.ci with
      challenge := s.ci.challenge.filter fun c => decide (c.drawnAt + 60 ≠ s.pwr.seconds) } := by
  unfold State.expireChallenge
  cases standing : s.ci.challenge with
  | none => exact (State.withChallenge_self standing.symm).symm
  | some c =>
    dsimp only
    split
    · next expired =>
      have ends : (some c).filter (fun c => decide (c.drawnAt + 60 ≠ s.pwr.seconds)) = none :=
        Option.filter_some_neg (decide_eq_false (not_not.mpr expired))
      rw [ends]
    · next lives =>
      have stays : (some c).filter (fun c => decide (c.drawnAt + 60 ≠ s.pwr.seconds)) = some c :=
        Option.filter_some_pos (decide_eq_true lives)
      rw [stays, State.withChallenge_self standing.symm]

theorem State.startSample_eq (s : State) :
    s.startSample = s.withEss { s.ess with
      sample := if s.pwr.seconds.toNat % 16 = 0 then some 0 else s.ess.sample } := by
  unfold State.startSample Config.samplePeriod
  split <;> rfl

/-- What the advance does, by what the window does of it. -/
theorem exec_cabinetSecondAdvance (s : State) :
    let u := (s.withPwr { s.pwr with seconds := s.pwr.seconds + 1 }).tickWindow
    exec .cabinetSecondAdvance s = .next ((u.withCi { u.ci with
      challenge := u.ci.challenge.filter fun c => decide (c.drawnAt + 60 ≠ u.pwr.seconds) }).withEss
        { u.ess with
          sample := if u.pwr.seconds.toNat % 16 = 0 then some 0 else u.ess.sample }) := by
  intro u
  simp only [exec, execCabinetSecondAdvance, State.expireChallenge_eq, State.startSample_eq]
  rfl

theorem State.tickWindow_of_idle (idle : s.ci.window.running = false ∨ s.ci.window.remaining = 0) :
    s.tickWindow = s := by
  unfold State.tickWindow
  rw [if_neg]
  rcases idle with stopped | zero
  · simp [stopped]
  · simp [zero]

theorem State.tickWindow_of_many (running : s.ci.window.running = true)
    (many : 1 < s.ci.window.remaining) :
    s.tickWindow = s.withCi { s.ci with
      window := { s.ci.window with remaining := s.ci.window.remaining - 1 } } := by
  unfold State.tickWindow
  rw [if_pos (by simp [running]; omega)]
  dsimp only
  rw [if_neg (by simp only [State.withCi_ci]; omega)]

theorem State.tickWindow_of_last (running : s.ci.window.running = true)
    (last : s.ci.window.remaining = 1) :
    s.tickWindow =
      (s.withCi { s.ci with window := { s.ci.window with remaining := 0 } }).windowAtZero := by
  unfold State.tickWindow
  rw [if_pos (by simp [running, last])]
  simp [last]

theorem State.executing_iff (s : State) : s.executing = true ↔ ∃ c, s.ci.port = .executing c := by
  unfold State.executing
  split <;> simp [*]

theorem State.windowAtZero_of_executing (executing : ∃ c, s.ci.port = .executing c) :
    s.windowAtZero = s.withCi { s.ci with expiryPending := true } :=
  if_pos (s.executing_iff.mpr executing)

theorem State.windowAtZero_of_idle (idle : ¬∃ c, s.ci.port = .executing c) :
    s.windowAtZero = s.expireWindow :=
  if_neg (mt s.executing_iff.mp idle)

/-- An expiry empties the list, stops the window and raises WINDOW_EXPIRED; the context ends if two or
more were present (R103). -/
theorem State.expireWindow_eq (s : State) :
    s.expireWindow = { s with
      ci.presence := []
      ci.window := s.ci.window.stop
      ci.flags := s.ci.flags ||| 0x004
      ci.expiryPending := false
      cec := if 2 ≤ s.ci.presence.length then none else s.cec } := by
  unfold State.expireWindow State.shrinkPresence
  by_cases two : 2 ≤ s.ci.presence.length <;> simp [two] <;> rfl

/-- The cabinet seconds stand at a value: a law that all but the advance, the loss of the feed and a cold
start keep. -/
def State.SecondsAre (n : Seconds) (s : State) : Prop :=
  s.pwr.seconds = n

namespace State.SecondsAre

theorem congr (h : s.SecondsAre n) (pwr : t.pwr = s.pwr) : t.SecondsAre n :=
  (congrArg PowerController.seconds pwr).trans h

theorem eraseStart {cause : Cause} (h : s.SecondsAre n) : (s.eraseStart cause).SecondsAre n := by
  refine Eq.trans ?_ h
  simp [State.eraseStart, State.eraseCheck]

theorem trigger (cause : Cause) (h : s.SecondsAre n) : (s.trigger cause).SecondsAre n :=
  trigger_keeps (P := State.SecondsAre n) eraseStart (fun h => h) cause h

theorem judgeInHold (x : Option BatteryResult) (h : s.SecondsAre n) :
    (s.judgeInHold x).SecondsAre n :=
  judgeInHold_keeps (P := State.SecondsAre n) eraseStart (fun h => h) x h

theorem sensing (o : s.SensingOnly t) (h : s.SecondsAre n) : t.SecondsAre n :=
  h.congr o.pwr

theorem console (o : s.ConsoleOnly t) (h : s.SecondsAre n) : t.SecondsAre n :=
  h.congr o.pwr

theorem serving {c : Command} (served : s.Serving c t) (h : s.SecondsAre n) : t.SecondsAre n := by
  cases served with
  | zeroizes => exact h.trigger _
  | arms => exact h.congr (by simp)
  | measures => exact h.congr (by simp)
  | leaves => exact h.congr (by simp)
  | _ => exact h

theorem counts {x : PowerController} (_ : x.supply = s.pwr.supply)
    (seconds : x.seconds = s.pwr.seconds) (h : s.SecondsAre n) : (s.withPwr x).SecondsAre n :=
  seconds.trans h

theorem visits {p : CheckPosition} {cold : Bool} {job : Job} (_ : job.claimant = .pwr)
    (_ : s.pwr.supply ≠ .normal) (h : s.SecondsAre n) : (s.visit p cold job).SecondsAre n :=
  h

theorem finishes {cold : Bool} (_ : s.pwr.supply ≠ .normal) (h : s.SecondsAre n) :
    (s.finishRestart cold).SecondsAre n := by
  unfold State.finishRestart State.raiseIf
  split <;> exact h

theorem holdEntry (h : s.SecondsAre n) : s.holdEntry.SecondsAre n :=
  judgeInHold (s := s.holdLost) _ h

theorem eraseAt (i : EntryIndex) (h : s.SecondsAre n) : (s.eraseAt i).SecondsAre n := by
  unfold State.eraseAt
  dsimp only
  split
  · exact h
  · exact actOnHeld_keeps (P := State.SecondsAre n) visits finishes counts (fun h => h) holdEntry h

theorem reportIf (b : Bool) (h : s.SecondsAre n) : (s.reportIf b).SecondsAre n := by
  unfold State.reportIf
  split
  · exact lidReport_keeps (P := State.SecondsAre n) sensing trigger h
  · exact h

theorem completeClaim (claim : Claim) (h : s.SecondsAre n) : (s.completeClaim claim).SecondsAre n := by
  refine congr (s := (s.withCc s.cc.release).deliverResults claim.job) ?_ rfl
  generalize released : s.withCc s.cc.release = u
  have kept : u.SecondsAre n := released ▸ h
  unfold State.deliverResults
  split
  case h_5 | h_6 =>
    unfold State.completeCheck
    split
    · next supply =>
      exact selfCheckFrom_keeps (P := State.SecondsAre n) visits finishes _ _ (by simp [supply])
        (kept.congr (by simp))
    all_goals exact kept
  all_goals exact kept.congr (by simp)

theorem startService {c : ChannelNo} {r : Request} (begins : s.startService c r = .next t)
    (h : s.SecondsAre n) : t.SecondsAre n := by
  rcases State.startService_cases begins with
    ⟨reply, rfl⟩ | ⟨entry, status, rfl⟩ | ⟨body, bound, -, -, rfl⟩
  · exact h
  · exact h.congr (by simp)
  · exact h.congr (by simp)

end State.SecondsAre

/-- The commands that move the cabinet seconds (R184, R189; assumption log 15). -/
theorem seconds_of_arm {i : Instr} (arm : s.Arm i t) : t.SecondsAre s.pwr.seconds ∨
    i = .cabinetSecondAdvance ∨
      (((∃ e a v, i = .coldStart e a v) ∨ i = .retentionFeedLoss) ∧ t.pwr.seconds = 0) := by
  have start : s.SecondsAre s.pwr.seconds := rfl
  cases arm with
  | second => exact .inr (.inl rfl)
  | feedLost => exact .inr (.inr ⟨.inr rfl, rfl⟩)
  | coldStart => exact .inr (.inr ⟨.inl ⟨_, _, _, rfl⟩, rfl⟩)
  | selects _ _ _ begins => exact .inl (State.SecondsAre.startService begins start)
  | claimEnds => exact .inl (start.completeClaim _)
  | row =>
    exact .inl (completeCommand_keeps .console (fun _ => .serving) _
      (takeCommand_keeps .console (fun _ => .serving) _ start))
  | write => exact .inl (portWriteAt_keeps .console (fun _ => .serving) _ start)
  | completes => exact .inl (completeCommand_keeps .console (fun _ => .serving) _ start)
  | battery =>
    unfold State.judgeBattery
    split
    · exact .inl (State.SecondsAre.judgeInHold _ start)
    all_goals exact .inl (start.congr (by simp))
  | converts => exact .inl (completeConversion_keeps .sensing .trigger _ _ start)
  | lids => exact .inl (.reportIf _ (.reportIf _ start))
  | emzFalls => exact .inl (.trigger _ start)
  | vdd =>
    obtain ⟨e, p, moved, -, seconds⟩ := s.vddMoves_eq _
    exact .inl (moved ▸ seconds)
  | lowTimer => exact .inl (requestHold_keeps .counts .holdEntry start)
  | returnTimer => exact .inl (requestRestart_keeps .visits .finishes .counts (fun h => h) start)
  | resetLow => exact .inl (requestReset_keeps .visits .finishes .counts (fun h => h) start)
  | resetHigh => exact .inl (releaseReset_keeps .visits .finishes .counts start)
  | erases => exact .inl (start.eraseAt _)
  | _ => exact .inl (start.congr (by simp))

end Seconds

/-- Settles O16: the advance by what the window does of it, and every other command by its arm. -/
theorem cabinetSecondsAdvance : Obligations.CabinetSecondsAdvance := by
  refine ⟨fun s => ⟨fun idle => ?_, fun running many => ?_, fun running last executing => ?_,
    fun running last idle => ?_⟩, fun c s t h => seconds_of_arm (exec_arm h)⟩
  · rw [exec_cabinetSecondAdvance, State.tickWindow_of_idle (by exact idle)]
    rfl
  · rw [exec_cabinetSecondAdvance, State.tickWindow_of_many (by exact running) (by exact many)]
    rfl
  · rw [exec_cabinetSecondAdvance, State.tickWindow_of_last (by exact running) (by exact last),
      State.windowAtZero_of_executing (by exact executing)]
    rfl
  · rw [exec_cabinetSecondAdvance, State.tickWindow_of_last (by exact running) (by exact last),
      State.windowAtZero_of_idle (by exact idle), State.expireWindow_eq]
    rfl

/-! ## Frames (R91, Table 6-8) -/

/-- A well-formed frame is a code, a length and as many parameter bytes, of which Table 6-8 gives the
command (R91). -/
theorem frame_of_command {bytes : List Byte} {c : Command} (h : readFrame bytes = .command c) :
    ∃ code n p least most, bytes = code :: n :: p ∧ p.length = n.toNat ∧
      commandOfCode code.toNat p = some (least, most, c) ∧ least ≤ p.length ∧ p.length ≤ most := by
  unfold readFrame at h
  split at h
  · nomatch h
  · nomatch h
  · next code n p =>
    split at h
    · nomatch h
    · next sound =>
      split at h
      · nomatch h
      · next least most d found =>
        split at h
        · next fits =>
          cases h
          simp only [Bool.or_eq_true, decide_eq_true_iff, bne_iff_ne, not_or, not_not] at sound
          simp only [Bool.and_eq_true, decide_eq_true_iff] at fits
          exact ⟨code, n, p, least, most, rfl, sound.2, found, fits.1, fits.2⟩
        · nomatch h

/-- The label of an OPEN_CEREMONY frame is what follows its eight bytes (Table 7-2). -/
theorem openCeremony_of_code {code : Nat} {p : List Byte} {least most : Nat}
    {kind target generation components : Byte} {issuer : IssuerTag} {rights labelLength : Byte}
    {label : List Byte}
    (h : commandOfCode code p = some (least, most,
      .openCeremony kind target generation components issuer rights labelLength label)) :
    most = 24 ∧ label = p.drop 8 := by
  unfold commandOfCode at h
  split at h <;> simp only [Option.some.injEq, Prod.mk.injEq, Command.openCeremony.injEq,
    reduceCtorEq, and_false] at h
  obtain ⟨-, rfl, -, -, -, -, -, -, -, rfl⟩ := h
  exact ⟨rfl, rfl⟩

/-- A frame of 8 to 24 parameter bytes holds a label of 16 at most (Table 6-8). -/
theorem label_of_frame {bytes : List Byte} {kind target generation components : Byte}
    {issuer : IssuerTag} {rights labelLength : Byte} {label : List Byte}
    (h : readFrame bytes =
      .command (.openCeremony kind target generation components issuer rights labelLength label)) :
    label.length ≤ 16 := by
  obtain ⟨code, n, p, least, most, -, -, found, -, fits⟩ := frame_of_command h
  obtain ⟨rfl, rfl⟩ := openCeremony_of_code found
  rw [List.length_drop]
  omega

/-! ## Rows (R91, R92, R93; assumption log 4) -/

section Rows

variable {s : State} {c : Command} {reply : Option ReplyFrame}

/-- A write transaction to the port's address that spells a command is its take (R91, R92). -/
theorem exec_commandTaken {bytes : List Byte} (port : s.ci.port = .ready reply)
    (reads : readFrame bytes = .command c) :
    exec (.commandTaken ⟨s.ci.address, bytes⟩) s = .next (s.takeCommand c) := by
  simp only [exec, execCommandTaken, State.portWriteAt, if_true, State.portWrite, port, reads]

/-- Only a CHALLENGE uses the bytes drawn (R98). -/
theorem State.serve_draw (other : c ≠ .challenge) (draw draw' : Block) :
    s.serve c draw = s.serve c draw' := by
  cases c with
  | challenge => exact absurd rfl other
  | _ => rfl

theorem State.completeCommand_draw (other : s.ci.port ≠ .executing .challenge) (draw draw' : Block) :
    s.completeCommand draw = s.completeCommand draw' := by
  unfold State.completeCommand
  split
  · next c port =>
    rw [State.serve_draw (c := c) (fun same => other (by rw [port, same])) draw draw']
  all_goals rfl

/-- A command that does not act at its take stays in progress (R93). -/
theorem State.startCommand_port (acts : c.actsAtTake = false) :
    (s.startCommand c).ci.port = s.ci.port := by
  cases decides : c.decidesAtTake with
  | true =>
    cases c with
    | respond =>
      simp only [State.startCommand, State.startRespond]
      split <;> rfl
    | enterComponent | commit =>
      simp only [State.startCommand, State.claimOrRefuse]
      split <;> rfl
    | openCeremony => exact State.startOpen_port
    | _ => nomatch decides
  | false => rw [State.startCommand_of_waits decides acts]

/-- A command that is taken is in progress, or has completed (R92, R93). -/
theorem State.takeCommand_port (c : Command) (s : State) :
    (s.takeCommand c).ci.port = .executing c ∨ ∃ reply, (s.takeCommand c).ci.port = .ready reply := by
  rcases s.takeCommand_cases c with ⟨status, -, e⟩ | ⟨-, e⟩
  · exact .inr ⟨_, e ▸ State.finish_port _ _ _⟩
  rw [e]
  cases acts : c.actsAtTake with
  | false => exact .inl (State.startCommand_port acts)
  | true =>
    cases c with
    | measureNow =>
      rw [State.startCommand_measureNow rfl]
      exact .inr ⟨_, State.finish_port _ _ _⟩
    | zeroize =>
      simp only [State.startCommand, State.trigger]
      split
      · exact .inr ⟨_, State.eraseStart_port _ _⟩
      · exact .inl rfl
    | _ => nomatch acts

/-- A row of one command takes it and completes it (assumption log 4). -/
theorem exec_row {draw : Block} {i : Instr} (spells : c.row? draw = some i)
    (fits : ∀ kind target generation components issuer rights labelLength label,
      c = .openCeremony kind target generation components issuer rights labelLength label →
        label.length ≤ 16) (port : s.ci.port = .ready reply) :
    exec i s = .next ((s.takeCommand c).completeCommand draw) := by
  have row (d : Block) : s.commandRow c d = (s.takeCommand c).completeCommand d := by
    simp only [State.commandRow, port]
  by_cases challenge : c = .challenge
  · subst challenge
    cases spells
    exact congrArg _ (row draw)
  · have blind : (s.takeCommand c).completeCommand draw = (s.takeCommand c).completeCommand 0 := by
      refine State.completeCommand_draw ?_ _ _
      rcases s.takeCommand_port c with executing | ⟨r, ready⟩
      · rw [executing]
        exact fun same => challenge (Port.executing.inj same)
      · rw [ready]
        nofun
    rw [blind, ← row]
    cases c with
    | challenge => exact absurd rfl challenge
    | openCeremony =>
      cases spells
      exact if_pos (fits _ _ _ _ _ _ _ _ rfl)
    | status | respond | readEvents | readTamperRecord | logoff | cancelCeremony | zeroize
    | measureNow | readEntry | readChannel | readMesh | setEventEnables | enterComponent | commit =>
      cases spells
      rfl
    | _ => nomatch spells

end Rows

/-- Settles O18: the row and the two steps it stands for are the same take and completion. -/
theorem rowIsTakenThenCompleted : Obligations.RowIsTakenThenCompleted := by
  intro bytes c draw row s u reads spells ⟨reply, port⟩ taken
  rw [exec_commandTaken port reads] at taken
  cases taken
  refine (exec_row spells (fun _ _ _ _ _ _ _ _ same => ?_) port).symm
  subst same
  exact label_of_frame reads

/-! ## The erase pass (R173, R177, R178) -/

/-- The Erase Controller stands but for the causes, of which none is lost. -/
def EraseController.Notes (e e' : EraseController) : Prop :=
  e' = { e with record.causes := e'.record.causes } ∧
    e.record.causes &&& e'.record.causes = e.record.causes

/-- The Erase Controller of an erase in progress, some causes later. -/
def State.PassStands (e : EraseController) (s : State) : Prop :=
  s.ec.position ≠ none ∧ e.Notes s.ec

namespace State.PassStands

variable {s t : State} {e : EraseController}

theorem erasing (h : s.PassStands e) : s.ec.position ≠ none := h.1

theorem notes (h : s.PassStands e) : e.Notes s.ec := h.2

theorem refl (erasing : s.ec.position ≠ none) : s.PassStands s.ec :=
  ⟨erasing, rfl, BitVec.and_self⟩

theorem congr (h : s.PassStands e) (ec : t.ec = s.ec) : t.PassStands e :=
  ⟨ec ▸ h.erasing, ec ▸ h.notes⟩

/-- A trigger adds its cause (R177). -/
theorem trigger (cause : Cause) (h : s.PassStands e) : (s.trigger cause).PassStands e := by
  rw [State.trigger_erasing cause s h.erasing]
  obtain ⟨same, kept⟩ := h.notes
  refine ⟨h.erasing, ?_, ?_⟩
  · simp only [State.withEc_ec]
    rw [same]
  · simp only [State.withEc_ec]
    rw [BitVec.and_or_distrib_left, kept]
    ext i
    simp only [BitVec.getElem_or, BitVec.getElem_and]
    cases (e.record.causes)[i] <;> simp

theorem console (o : s.ConsoleOnly t) (h : s.PassStands e) : t.PassStands e :=
  h.congr o.ec

theorem sensing (o : s.SensingOnly t) (h : s.PassStands e) : t.PassStands e :=
  h.congr o.ec

/-- Serving starts no erase during one, and only ACK_TRIP writes the record (R132, R177). -/
theorem serving {c : Command} (other : c ≠ .ackTrip) (served : s.Serving c t) (h : s.PassStands e) :
    t.PassStands e := by
  cases served with
  | acknowledges => exact absurd rfl other
  | zeroizes => exact h.trigger _
  | arms => exact h.congr (by simp)
  | measures => exact h.congr (by simp)
  | leaves => exact h.congr (by simp)
  | _ => exact h.congr rfl

theorem acts {c : Command} (acts : c.actsAtTake = true) (served : s.Serving c t)
    (h : s.PassStands e) : t.PassStands e :=
  h.serving (fun same => by subst same; nomatch acts) served

/-- ACK_TRIP is not served during an erase (R92). -/
theorem completeCommand (desk : s.DeskLaw) (draw : Block) (h : s.PassStands e) :
    (s.completeCommand draw).PassStands e :=
  completeCommand_keeps .console (fun port served h => h.serving (fun same => by
    subst same
    nomatch desk.servedOnly h.erasing _ port) served) draw h

theorem visits {p : CheckPosition} {cold : Bool} {job : Job} (_ : job.claimant = .pwr)
    (_ : s.pwr.supply ≠ .normal) (h : s.PassStands e) : (s.visit p cold job).PassStands e :=
  h

theorem finishes {cold : Bool} (_ : s.pwr.supply ≠ .normal) (h : s.PassStands e) :
    (s.finishRestart cold).PassStands e :=
  h.congr (by simp)

theorem reportIf (b : Bool) (h : s.PassStands e) : (s.reportIf b).PassStands e := by
  unfold State.reportIf
  split
  · exact lidReport_keeps (P := State.PassStands e) sensing trigger h
  · exact h

theorem completeClaim (claim : Claim) (h : s.PassStands e) : (s.completeClaim claim).PassStands e := by
  refine congr (s := (s.withCc s.cc.release).deliverResults claim.job) ?_ rfl
  generalize released : s.withCc s.cc.release = u
  have kept : u.PassStands e := released ▸ h
  unfold State.deliverResults
  split
  case h_5 | h_6 =>
    unfold State.completeCheck
    split
    · next supply =>
      exact selfCheckFrom_keeps (P := State.PassStands e) visits finishes _ _ (by simp [supply])
        (kept.congr (by simp))
    all_goals exact kept
  all_goals exact kept.congr (by simp)

theorem startService {c : ChannelNo} {r : Request} (begins : s.startService c r = .next t)
    (h : s.PassStands e) : t.PassStands e := by
  rcases State.startService_cases begins with
    ⟨reply, rfl⟩ | ⟨entry, status, rfl⟩ | ⟨body, bound, -, -, rfl⟩
  · exact h
  · exact h.congr (by simp)
  · exact h.congr (by simp)

/-- Hold and restart requests and RESET are held (R178, R183). -/
theorem requestHold (h : s.PassStands e) : s.requestHold.PassStands e := by
  rw [State.requestHold, if_pos (State.erasing_of_position h.erasing)]
  exact h

theorem requestRestart (h : s.PassStands e) : s.requestRestart.PassStands e := by
  rw [State.requestRestart, if_pos (State.erasing_of_position h.erasing)]
  exact h

theorem requestReset (h : s.PassStands e) : s.requestReset.PassStands e := by
  rw [State.requestReset, if_pos (State.erasing_of_position h.erasing)]
  split <;> exact h

theorem releaseReset (h : s.PassStands e) : s.releaseReset.PassStands e := by
  unfold State.releaseReset
  split
  · rw [if_pos (State.erasing_of_position h.erasing)]
    exact h
  all_goals exact h

theorem judgeBattery (r : BatteryResult) (h : s.PassStands e) : (s.judgeBattery r).PassStands e := by
  unfold State.judgeBattery State.judgeInHold
  split
  · dsimp only
    split
    · exact h.trigger _
    · exact h
  all_goals exact h.congr (by simp)

/-- What a command does to an erase in progress, but for the pass, a cold start and the loss of the
feed. -/
theorem of_arm {i : Instr} (desk : s.DeskLaw) (arm : s.Arm i t) (h : s.PassStands e) :
    i = .eraseEntry ∨ (∃ e a v, i = .coldStart e a v) ∨ i = .retentionFeedLoss ∨ t.PassStands e := by
  have keep (kept : t.PassStands e) : i = .eraseEntry ∨ (∃ e a v, i = .coldStart e a v) ∨
      i = .retentionFeedLoss ∨ t.PassStands e := .inr (.inr (.inr kept))
  cases arm with
  | erases => exact .inl rfl
  | coldStart => exact .inr (.inl ⟨_, _, _, rfl⟩)
  | feedLost => exact .inr (.inr (.inl rfl))
  | selects _ _ _ begins => exact keep (startService begins h)
  | claimEnds => exact keep (h.completeClaim _)
  | row =>
    exact keep (completeCommand (desk.takeCommand _) _ (takeCommand_keeps .console .acts _ h))
  | write => exact keep (portWriteAt_keeps .console .acts _ h)
  | completes => exact keep (h.completeCommand desk _)
  | battery => exact keep (judgeBattery _ h)
  | converts => exact keep (completeConversion_keeps .sensing .trigger _ _ h)
  | lids => exact keep (.reportIf _ (.reportIf _ h))
  | emzFalls => exact keep (.trigger _ h)
  | vdd =>
    obtain ⟨e, p, moved, -⟩ := s.vddMoves_eq _
    exact keep (moved ▸ h)
  | lowTimer => exact keep (requestHold h)
  | returnTimer => exact keep (requestRestart h)
  | resetLow => exact keep (requestReset h)
  | resetHigh => exact keep (releaseReset h)
  | _ => exact keep (h.congr (by simp))

end State.PassStands

/-- Settles O15: each arm but the three named ones leaves the pass, and a trigger only adds its cause. -/
theorem erasePassStandsFirm : Obligations.ErasePassStandsFirm := by
  intro c s t i law position next
  have desk := (s.keyLaw_iff.mp law).2
  have start : s.PassStands s.ec := .refl (by simp [position])
  exact (start.of_arm desk (exec_arm next)).imp_right (Or.imp_right (Or.imp_right fun h => h.notes))

end Sys2Proof.Machine

/-! The moves of the monitor state (Table 8-3), and the reads without key values (R19, R65). -/

namespace Sys2Proof.Machine

/-! ## Moves of the monitor (Table 8-3) -/

section Moves

variable {s t u : State} {i : Instr}

/-- The monitor's state stands, or an erase start trips it (R137). -/
def State.Trips (s t : State) : Prop :=
  t.tm.state = s.tm.state ∨ (t.tm.state = .tripped ∧ t.ec.position = some 0)

/-- The monitor's state stands, or learning ends (R152, R156). -/
def State.EndsLearning (s t : State) : Prop :=
  t.tm.state = s.tm.state ∨ (s.tm.state = .learning ∧ t.tm.state = .unarmed)

/-- Learning fails with its event (R150). -/
def State.FailsLearning (s t : State) : Prop :=
  s.tm.state = .learning ∧ t.tm.state = .unarmed ∧ t.flag .armResult = true

theorem State.eraseStart_trips (cause : Cause) (s : State) : s.Trips (s.eraseStart cause) := by
  refine .inr ⟨?_, by simp⟩
  rw [State.eraseStart_tm]
  rfl

theorem State.trigger_trips (cause : Cause) (s : State) : s.Trips (s.trigger cause) := by
  by_cases idle : s.ec.position = none
  · rw [State.trigger_idle cause s idle]
    exact s.eraseStart_trips cause
  · rw [State.trigger_erasing cause s idle]
    exact .inl rfl

theorem State.judgeInHold_trips (x : Option BatteryResult) (s : State) :
    s.Trips (s.judgeInHold x) := by
  unfold State.judgeInHold
  split
  · split
    · exact s.trigger_trips _
    · exact .inl rfl
  · exact .inl rfl

/-- A change of another block before or after leaves a trip one. -/
theorem State.Trips.congr (h : u.Trips t) (state : u.tm.state = s.tm.state) : s.Trips t :=
  h.imp_left fun same => same.trans state

theorem State.failLearning_fails (learning : s.tm.state = .learning) :
    s.FailsLearning s.failLearning :=
  ⟨learning, rfl, State.flag_raiseEvent_self _ _⟩

/-! ### Lid reports (R159) -/

theorem State.lidReport_of_other (armed : s.tm.state ≠ .armed) (learning : s.tm.state ≠ .learning) :
    s.lidReport = s := by
  unfold State.lidReport
  split
  · exact absurd ‹_› armed
  · exact absurd ‹_› learning
  all_goals rfl

theorem State.lidReport_moves (s : State) : s.Trips s.lidReport ∨ s.FailsLearning s.lidReport := by
  unfold State.lidReport
  split
  · exact .inl (s.trigger_trips _)
  · exact .inr (State.failLearning_fails ‹_›)
  all_goals exact .inl (.inl rfl)

/-- Two lids report one after the other; the second finds nothing left to end (assumption log 23). -/
theorem State.reports_moves (a b : Bool) (s : State) :
    s.Trips ((s.reportIf a).reportIf b) ∨
      ((a = true ∨ b = true) ∧ s.FailsLearning ((s.reportIf a).reportIf b)) := by
  unfold State.reportIf
  cases a with
  | false =>
    cases b with
    | false => exact .inl (.inl rfl)
    | true => exact s.lidReport_moves.imp_right (And.intro (.inr rfl))
  | true =>
    have first := s.lidReport_moves
    cases b with
    | false => exact first.imp_right (And.intro (.inl rfl))
    | true =>
      simp only [if_true]
      rcases first with (same | ⟨tripped, position⟩) | ⟨learning, unarmed, flag⟩
      · exact s.lidReport.lidReport_moves.imp (fun trips => trips.congr same)
          fun ⟨learning, rest⟩ => ⟨.inl trivial, same ▸ learning, rest⟩
      · rw [State.lidReport_of_other (by simp [tripped]) (by simp [tripped])]
        exact .inl (.inr ⟨tripped, position⟩)
      · rw [State.lidReport_of_other (by simp [unarmed]) (by simp [unarmed])]
        exact .inr ⟨.inl trivial, learning, unarmed, flag⟩

/-! ### Readings (R145, R149 to R151) -/

theorem State.evaluate_trips (m : Mesh) (n : Nat) (s : State) : s.Trips (s.evaluate m n) := by
  unfold State.evaluate
  dsimp only
  generalize judge _ _ _ _ = v
  have same : (s.withTm (s.tm.setMesh m
      ((s.tm.mesh m).judged v s.tm.drift s.tm.window n))).tm.state = s.tm.state :=
    TamperMonitor.setMesh_state _ _ _
  cases v with
  | cut => exact (State.trigger_trips _ _).congr same
  | strike trips =>
    cases trips with
    | true => exact (State.trigger_trips _ _).congr same
    | false => exact .inl same
  | within => exact .inl same

theorem State.learnReading_moves (learning : s.tm.state = .learning) (m : Mesh) (n : Nat) :
    (s.learnReading m n).tm.state = .learning ∨ (s.learnReading m n).tm.state = .armed ∨
      s.FailsLearning (s.learnReading m n) := by
  unfold State.learnReading
  split
  · exact .inl learning
  · split
    · exact .inl learning
    · dsimp only
      split
      · exact .inr (.inr (State.failLearning_fails learning))
      · split
        · exact .inr (.inl rfl)
        · exact .inl learning

theorem State.completeConversion_moves (cv : Conversion) (crossing : Nat) (s : State) :
    s.Trips (s.completeConversion cv crossing) ∨
      (s.tm.state = .learning ∧ (s.completeConversion cv crossing).tm.state = .armed) ∨
      s.FailsLearning (s.completeConversion cv crossing) := by
  unfold State.completeConversion State.takeReading
  extract_lets reading
  have same : (s.withTm ((s.tm.record cv.mesh reading).afterConversion cv.mesh)).tm.state =
      s.tm.state := TamperMonitor.recorded_state _ _ _
  generalize s.withTm ((s.tm.record cv.mesh reading).afterConversion cv.mesh) = u at same
  split
  · exact .inl ((u.evaluate_trips _ _).congr same)
  · next learning =>
    rcases u.learnReading_moves learning cv.mesh reading with stays | armed | ⟨-, fails⟩
    · exact .inl (.inl (stays.trans (learning.symm.trans same)))
    · exact .inr (.inl ⟨same ▸ learning, armed⟩)
    · exact .inr (.inr ⟨same ▸ learning, fails⟩)
  all_goals exact .inl (.inl same)

/-! ### Hold entry and restart (R152, R156, R185) -/

theorem State.holdEntry_moves (s : State) :
    s.holdEntry.pwr.supply = .hold ∧ (s.EndsLearning s.holdEntry ∨
      (s.holdEntry.tm.state = .tripped ∧ s.holdEntry.ec.position = some 0)) := by
  have lost : s.holdLost.tm.state = s.tm.state.endLearning := TamperMonitor.holdEntry_state s.tm
  have ends : s.EndsLearning s.holdLost := by
    rcases s.tm.state.endLearning_cases with same | ⟨learning, unarmed⟩
    · exact .inl (lost.trans same)
    · exact .inr ⟨learning, lost.trans unarmed⟩
  refine ⟨judgeInHold_keeps (P := fun s => s.pwr.supply = .hold) ?_ (fun h => h) _ rfl, ?_⟩
  · intro s cause hold
    simp [State.eraseStart, State.eraseCheck, hold, Supply.eraseStart]
  · rcases s.holdLost.judgeInHold_trips s.holdLost.ess.result with same | trips
    · exact .inl (ends.imp (fun h => same.trans h) fun h => ⟨h.1, same.trans h.2⟩)
    · exact .inr trips

theorem State.selfCheckFrom_supply {start : Nat} {cold : Bool} (s : State) :
    (s.selfCheckFrom start cold).pwr.supply ≠ .hold := by
  rcases s.selfCheckFrom_cases start cold with ⟨p, job, -, -, e⟩ | ⟨-, e⟩ <;> rw [e] <;> nofun

theorem State.beginRestart_moves (s : State) :
    s.beginRestart.pwr.supply ≠ .hold ∧ s.EndsLearning s.beginRestart := by
  constructor
  · unfold State.beginRestart State.resumeRestart
    split
    · next supply =>
      split
      · rw [supply]
        nofun
      · exact State.selfCheckFrom_supply _
    · nofun
    · next supply => rw [supply]; nofun
    · next supply => nomatch supply
    · next supply => nomatch supply
  · have restarted : s.beginRestart.tm.state = s.tm.state.endLearning := by
      rw [State.beginRestart, State.resumeRestart_tm]
      rfl
    rcases s.tm.state.endLearning_cases with same | ⟨learning, unarmed⟩
    · exact .inl (restarted.trans same)
    · exact .inr ⟨learning, restarted.trans unarmed⟩

theorem State.actOnHeld_moves (s : State) : s.Trips s.actOnHeld ∨
    (s.tm.state = .learning ∧ s.actOnHeld.tm.state = .unarmed) := by
  unfold State.actOnHeld
  split
  · rcases s.holdEntry_moves.2 with (same | ends) | trips
    · exact .inl (.inl same)
    · exact .inr ends
    · exact .inl (.inr trips)
  · exact s.beginRestart_moves.2.imp_left .inl
  · split
    · exact s.beginRestart_moves.2.imp_left .inl
    · exact .inl (.inl (by rw [State.resumeRestart_tm]))

/-- What an erase pass does to the monitor: its completion may enter hold or begin a restart. -/
theorem State.eraseAt_moves (n : EntryIndex) (s : State) : s.Trips (s.eraseAt n) ∨
    (s.tm.state = .learning ∧ (s.eraseAt n).tm.state = .unarmed) := by
  unfold State.eraseAt
  dsimp only
  split
  · exact .inl (.inl rfl)
  · have moves := State.actOnHeld_moves (((s.setEntry n .empty).withEc
      { position := none, record := { s.ec.record with completed := true } }).raiseEvent .eraseDone)
    exact moves

/-! ### Commands (R130, R132, R154) -/

theorem State.beginLearning_state (s : State) :
    s.beginLearning.tm.state = .learning ∨ s.beginLearning.tm.state = .unarmed := by
  unfold State.beginLearning
  dsimp only
  split
  · exact .inr rfl
  · exact .inl rfl

theorem State.serveMeasure_moves (s : State) :
    s.serveMeasure.state.tm.state = s.tm.state ∨ s.FailsLearning s.serveMeasure.state := by
  unfold State.serveMeasure
  dsimp only [served]
  split
  · next learning =>
    have learning := eq_of_beq learning
    exact .inr ⟨learning, rfl, State.flag_raiseEvent_self _ _⟩
  · exact .inl (TamperMonitor.discard_state s.tm)

/-- What serving a command does to the monitor. -/
theorem State.Serving.moves {c : Command} (served : s.Serving c t) : s.Trips t ∨
    (c = .arm ∧ s.tm.state = .unarmed ∧ t.tm.state = .learning) ∨
    (c = .disarm ∧ s.tm.state = .armed ∧ t.tm.state = .unarmed ∧ s.noKeys) ∨
    (c = .ackTrip ∧ s.tm.state = .tripped ∧ t.tm.state = .unarmed ∧
      t.ec.record.acknowledged = true) ∨
    (c = .measureNow ∧ s.FailsLearning t) := by
  cases served with
  | arms unarmed =>
    rcases s.beginLearning_state with learning | stays
    · exact .inr (.inl ⟨rfl, unarmed, learning⟩)
    · exact .inl (.inl (stays.trans unarmed.symm))
  | disarms armed keyless => exact .inr (.inr (.inl ⟨rfl, armed, rfl, keyless⟩))
  | acknowledges tripped => exact .inr (.inr (.inr (.inl ⟨rfl, tripped, rfl, rfl⟩)))
  | measures =>
    exact s.serveMeasure_moves.elim (fun same => .inl (.inl same))
      fun fails => .inr (.inr (.inr (.inr ⟨rfl, fails⟩)))
  | mesh => exact .inl (.inl (TamperMonitor.configure_state _ _ _ _ _))
  | leaves => exact .inl (.inl (by simp))
  | zeroizes => exact .inl (s.trigger_trips _)
  | _ => exact .inl (.inl rfl)

/-- A flag that is set stays set through a completion (R103). -/
theorem State.flag_finish {e : Event} {status : ConsoleStatus} {body : List Byte}
    (h : s.flag e = true) : (s.finish status body).flag e = true := by
  unfold State.finish
  dsimp only
  split
  · unfold State.expireWindow
    refine State.flag_raiseEvent_mono .windowExpired e _ ?_
    unfold State.shrinkPresence
    dsimp only
    split <;> exact h
  · exact h

theorem State.FailsLearning.finish {status : ConsoleStatus} {body : List Byte}
    (h : s.FailsLearning t) : s.FailsLearning (t.finish status body) :=
  ⟨h.1, by simpa using h.2.1, State.flag_finish h.2.2⟩

theorem State.Trips.finish {status : ConsoleStatus} {body : List Byte} (h : s.Trips t) :
    s.Trips (t.finish status body) :=
  h.imp (by simp) (by simp)

/-- What a completion does to the monitor: what serving the command in progress does. -/
theorem State.completeCommand_moves (draw : Block) (s : State) : s.Trips (s.completeCommand draw) ∨
    ∃ c, s.ci.port = .executing c ∧
      ((c = .arm ∧ s.tm.state = .unarmed ∧ (s.completeCommand draw).tm.state = .learning) ∨
      (c = .disarm ∧ s.tm.state = .armed ∧ (s.completeCommand draw).tm.state = .unarmed ∧ s.noKeys) ∨
      (c = .ackTrip ∧ s.tm.state = .tripped ∧ (s.completeCommand draw).tm.state = .unarmed ∧
        (s.completeCommand draw).ec.record.acknowledged = true) ∨
      (c = .measureNow ∧ s.FailsLearning (s.completeCommand draw))) := by
  rcases s.completeCommand_cases draw with e | ⟨c, r, port, served, e⟩ | ⟨c, status, port, -, -, e⟩
  · exact e.symm ▸ .inl (.inl rfl)
  · rw [e]
    refine (serve_serving served).moves.imp .finish fun moves => ⟨c, port, ?_⟩
    rw [State.finish_tm, State.finish_ec]
    exact moves.imp_right (Or.imp_right (Or.imp_right fun ⟨same, fails⟩ => ⟨same, fails.finish⟩))
  · exact e.symm ▸ .inl (.inl (by simp))

/-- What a take does to the monitor: ZEROIZE and MEASURE_NOW act and complete, others wait. -/
theorem State.takeCommand_moves (c : Command) (s : State) :
    ((∃ reply, (s.takeCommand c).ci.port = .ready reply) ∧
      (s.Trips (s.takeCommand c) ∨ (c = .measureNow ∧ s.FailsLearning (s.takeCommand c)))) ∨
    ((s.takeCommand c).ci.port = .executing c ∧ (s.takeCommand c).tm = s.tm ∧
      c.actsAtTake = false) := by
  rcases s.takeCommand_cases c with ⟨status, -, e⟩ | ⟨passes, e⟩
  · exact .inl ⟨⟨_, e ▸ State.finish_port _ _ _⟩, .inl (.inl (by rw [e]; simp))⟩
  rw [e]
  cases acts : c.actsAtTake with
  | false =>
    refine .inr ⟨State.startCommand_port acts, ?_, rfl⟩
    cases decides : c.decidesAtTake with
    | true => exact (State.ConsoleOnly.startCommand decides).tm
    | false => rw [State.startCommand_of_waits decides acts]; rfl
  | true =>
    cases c with
    | zeroize =>
      have idle : s.ec.position = none := Classical.byContradiction fun erasing => by
        rw [State.takeRefusal_of_erasing erasing rfl] at passes
        nomatch passes
      have starts : (s.accept .zeroize).startCommand .zeroize =
          (s.accept .zeroize).eraseStart .custodian := State.trigger_idle _ _ idle
      rw [starts]
      exact .inl ⟨⟨_, State.eraseStart_port _ _⟩, .inl (State.eraseStart_trips _ _)⟩
    | measureNow =>
      rw [State.startCommand_measureNow rfl]
      refine .inl ⟨⟨_, State.finish_port _ _ _⟩, ?_⟩
      exact (s.accept .measureNow).serveMeasure_moves.imp (fun same => .finish (.inl same))
        fun fails => ⟨rfl, fails.finish⟩
    | _ => nomatch acts

/-- Only a row of MEASURE_NOW ends learning (R154). -/
theorem State.rowMoves {c : Command} {draw : Block} (spells : c.row? draw = some i) (s : State) :
    s.Trips ((s.takeCommand c).completeCommand draw) ∨
      (i = .measureNow ∧ s.FailsLearning ((s.takeCommand c).completeCommand draw)) := by
  rcases s.takeCommand_moves c with ⟨⟨reply, ready⟩, moves⟩ | ⟨executing, same, acts⟩
  · have stands : (s.takeCommand c).completeCommand draw = s.takeCommand c := by
      simp only [State.completeCommand, ready]
    rw [stands]
    refine moves.imp_right fun ⟨measures, fails⟩ => ⟨?_, fails⟩
    subst measures
    exact (Option.some.inj spells).symm
  · rcases (s.takeCommand c).completeCommand_moves draw with trips | ⟨d, port, moves⟩
    · exact .inl (trips.congr (by rw [same]))
    · cases executing.symm.trans port
      rcases moves with ⟨rfl, -⟩ | ⟨rfl, -⟩ | ⟨rfl, -⟩ | ⟨rfl, -⟩
      · nomatch spells
      · nomatch spells
      · nomatch spells
      · nomatch acts

end Moves

/-! ### The table -/

/-- The commands by which MEASURE_NOW is served (R154; assumption log 4). -/
def MeasuresNow (s : State) (c : Instr) : Prop :=
  c = .measureNow ∨
    (∃ write, (c = .commandTaken write ∨ c = .badFrame write) ∧
      readFrame write.bytes = .command .measureNow) ∨
    ((∃ d, c = .commandComplete d) ∧ s.ci.port = .executing .measureNow)

/-- A lid becomes OPEN (R159). -/
def State.LidOpens (s t : State) : Prop :=
  (s.ess.lidA.isOpen = false ∧ t.ess.lidA.isOpen = true) ∨
    (s.ess.lidB.isOpen = false ∧ t.ess.lidB.isOpen = true)

/-- The rows of Table 8-3, with the cold start and the loss of the feed. -/
inductive State.Moves (s : State) (c : Instr) (t : State) : Prop where
  | trips (h : s.Trips t)
  | initial (cause : (∃ e a v, c = .coldStart e a v) ∨ c = .retentionFeedLoss)
      (unarmed : t.tm.state = .unarmed)
  | starts {d : Block} (completes : c = .commandComplete d) (port : s.ci.port = .executing .arm)
      (unarmed : s.tm.state = .unarmed) (learning : t.tm.state = .learning)
  | learned {x : Nat} (converts : c = .conversionComplete x) (learning : s.tm.state = .learning)
      (armed : t.tm.state = .armed)
  | fails (cause : (∃ x, c = .conversionComplete x) ∨ ((∃ a b, c = .lidSample a b) ∧ s.LidOpens t) ∨
      MeasuresNow s c) (h : s.FailsLearning t)
  | held (cause : c = .lowTimerExpiry ∨ c = .eraseEntry) (hold : t.pwr.supply = .hold)
      (learning : s.tm.state = .learning) (unarmed : t.tm.state = .unarmed)
  | restarted (cause : c = .returnTimerExpiry ∨ c = .resetLow ∨ c = .eraseEntry)
      (other : t.pwr.supply ≠ .hold) (learning : s.tm.state = .learning)
      (unarmed : t.tm.state = .unarmed)
  | acknowledged {d : Block} (completes : c = .commandComplete d)
      (port : s.ci.port = .executing .ackTrip) (tripped : s.tm.state = .tripped)
      (unarmed : t.tm.state = .unarmed) (written : t.ec.record.acknowledged = true)
  | disarmed {d : Block} (completes : c = .commandComplete d)
      (port : s.ci.port = .executing .disarm) (armed : s.tm.state = .armed)
      (unarmed : t.tm.state = .unarmed) (keyless : s.noKeys)

theorem State.startService_tm {s t : State} {c : ChannelNo} {r : Request}
    (begins : s.startService c r = .next t) : t.tm = s.tm := by
  rcases State.startService_cases begins with
    ⟨reply, rfl⟩ | ⟨entry, status, rfl⟩ | ⟨body, bound, -, -, rfl⟩
  · rfl
  · simp
  · simp

theorem State.moves_of_arm {s t : State} {c : Instr} (arm : s.Arm c t) : s.Moves c t := by
  cases arm with
  | coldStart => exact .initial (.inl ⟨_, _, _, rfl⟩) rfl
  | feedLost => exact .initial (.inr rfl) rfl
  | converts =>
    rcases s.completeConversion_moves _ _ with trips | ⟨learning, armed⟩ | fails
    · exact .trips trips
    · exact .learned rfl learning armed
    · exact .fails (.inl ⟨_, rfl⟩) fails
  | lids sampledA sampledB =>
    rcases State.reports_moves _ _ _ with trips | ⟨opened, fails⟩
    · exact .trips (trips.congr rfl)
    · refine .fails (.inr (.inl ⟨⟨_, _, rfl⟩, ?_⟩)) fails
      rw [State.LidOpens, State.reportIf_ess, State.reportIf_ess]
      simpa [lidOpened] using opened
  | row spells =>
    rcases s.rowMoves spells with trips | ⟨measures, fails⟩
    · exact .trips trips
    · exact .fails (.inr (.inr (.inl measures))) fails
  | write writes =>
    rcases s.portWriteAt_cases _ with e | ⟨reply, -, ⟨status, e⟩ | ⟨d, reads, e⟩⟩
    · exact .trips (.inl (by rw [e]))
    · exact .trips (.inl (by rw [e]; simp))
    · rw [e]
      rcases s.takeCommand_moves d with ⟨-, trips | ⟨rfl, fails⟩⟩ | ⟨-, same, -⟩
      · exact .trips trips
      · exact .fails (.inr (.inr (.inr (.inl ⟨_, writes.symm, reads⟩)))) fails
      · exact .trips (.inl (by rw [same]))
  | completes =>
    rcases s.completeCommand_moves _ with trips | ⟨d, port, moves⟩
    · exact .trips trips
    · rcases moves with ⟨rfl, unarmed, learning⟩ | ⟨rfl, armed, unarmed, keyless⟩ |
        ⟨rfl, tripped, unarmed, written⟩ | ⟨rfl, fails⟩
      · exact .starts rfl port unarmed learning
      · exact .disarmed rfl port armed unarmed keyless
      · exact .acknowledged rfl port tripped unarmed written
      · exact .fails (.inr (.inr (.inr (.inr ⟨⟨_, rfl⟩, port⟩)))) fails
  | battery =>
    unfold State.judgeBattery
    split
    · exact .trips ((State.judgeInHold_trips _ _).congr rfl)
    all_goals exact .trips (.inl (by simp))
  | emzFalls => exact .trips ((State.trigger_trips _ _).congr rfl)
  | lowTimer =>
    unfold State.requestHold
    split
    · exact .trips (.inl rfl)
    · rcases State.holdEntry_moves _ with ⟨hold, (same | ⟨learning, unarmed⟩) | trips⟩
      · exact .trips (.inl same)
      · exact .held (.inl rfl) hold learning unarmed
      · exact .trips (.inr trips)
  | returnTimer =>
    unfold State.requestRestart
    split
    · exact .trips (.inl rfl)
    · rcases State.beginRestart_moves _ with ⟨other, same | ⟨learning, unarmed⟩⟩
      · exact .trips (.inl same)
      · exact .restarted (.inl rfl) other learning unarmed
  | resetLow =>
    unfold State.requestReset
    split
    · split
      · exact .trips (.inl rfl)
      · rcases State.beginRestart_moves _ with ⟨other, same | ⟨learning, unarmed⟩⟩
        · exact .trips (.inl same)
        · exact .restarted (.inr (.inl rfl)) other learning unarmed
    · exact .trips (.inl rfl)
  | resetHigh => exact .trips (.inl (by rw [State.releaseReset_tm]; rfl))
  | @erases n =>
    rcases s.eraseAt_moves _ with trips | ⟨learning, unarmed⟩
    · exact .trips trips
    · by_cases hold : (s.eraseAt n).pwr.supply = .hold
      · exact .held (.inr rfl) hold learning unarmed
      · exact .restarted (.inr (.inr rfl)) hold learning unarmed
  | vdd =>
    obtain ⟨e, p, moved, -⟩ := s.vddMoves_eq _
    exact .trips (.inl (by rw [moved]; rfl))
  | claimEnds => exact .trips (.inl (by rw [State.completeClaim_tm]))
  | selects _ _ _ begins => exact .trips (.inl (by rw [State.startService_tm begins]; rfl))
  | holdConverts => exact .trips (.inl rfl)
  | _ => exact .trips (.inl (by simp))

/-- Settles O14: each arm by its row of the table. -/
theorem monitorMovesAsTable83 : Obligations.MonitorMovesAsTable83 := by
  intro c s t next
  cases State.moves_of_arm (exec_arm next) with
  | trips h =>
    rcases h with same | ⟨tripped, position⟩
    · exact .inl same
    · refine .inr (.inr ?_)
      rw [tripped]
      cases s.tm.state <;> exact position
  | initial cause unarmed => exact .inr (.inl ⟨cause, unarmed⟩)
  | starts completes port unarmed learning =>
    refine .inr (.inr ?_)
    rw [unarmed, learning]
    exact ⟨⟨_, completes⟩, port⟩
  | learned converts learning armed =>
    refine .inr (.inr ?_)
    rw [learning, armed]
    exact ⟨_, converts⟩
  | fails cause h =>
    obtain ⟨learning, unarmed, flag⟩ := h
    refine .inr (.inr ?_)
    rw [learning, unarmed]
    exact .inl ⟨cause, flag⟩
  | held cause hold learning unarmed =>
    refine .inr (.inr ?_)
    rw [learning, unarmed]
    exact .inr (.inl ⟨cause, hold⟩)
  | restarted cause other learning unarmed =>
    refine .inr (.inr ?_)
    rw [learning, unarmed]
    exact .inr (.inr ⟨cause, other⟩)
  | acknowledged completes port tripped unarmed written =>
    refine .inr (.inr ?_)
    rw [tripped, unarmed]
    refine ⟨⟨_, completes⟩, port, written, fun law => Classical.byContradiction fun erasing => ?_⟩
    nomatch law.servedOnly erasing _ port
  | disarmed completes port armed unarmed keyless =>
    refine .inr (.inr ?_)
    rw [armed, unarmed]
    exact ⟨⟨_, completes⟩, port, keyless⟩

/-! ## Reads (R19, R20, R54, R65) -/

/-- What a command answers, when its owner serves it. -/
def Served.answer (r : Served) : ConsoleStatus × List Byte :=
  (r.status, r.body)

/-- The six reads of the console (R19, R65, R107, R109, R155, R180). -/
def Command.Reads (c : Command) : Prop :=
  c = .status ∨ c = .readEvents ∨ c = .readTamperRecord ∨ c = .readMesh ∨
    (∃ i, c = .readEntry i) ∨ ∃ n, c = .readChannel n

section Reads

variable {s : State} {c : Command} {reply : Option ReplyFrame}

theorem State.entry_withoutSecrets (i : EntryIndex) (s : State) :
    s.withoutSecrets.entry i = (s.entry i).withoutValues := by
  simp [State.entry, State.withoutSecrets]

theorem State.channel_withoutSecrets (n : ChannelNo) (s : State) :
    s.withoutSecrets.channel n = { s.channel n with
      transport := (s.channel n).transport.map fun g => { g with value := 0 } } := by
  simp [State.channel, State.withoutSecrets]

theorem State.channelInService_withoutSecrets (n : ChannelNo) (s : State) :
    s.withoutSecrets.channelInService n = s.channelInService n := by
  unfold State.channelInService State.withoutSecrets
  cases s.su.inService <;> rfl

theorem Entry.bytes_withoutValues (e : Entry) : e.withoutValues.bytes = e.bytes := by
  cases e with
  | empty | faulted => rfl
  | held d suspended current previous => cases previous <;> rfl

theorem Channel.bytes_withoutValue (inService : Bool) (ch : Channel) :
    Channel.bytes inService { ch with
      transport := ch.transport.map fun g => { g with value := 0 } } = ch.bytes inService := by
  unfold Channel.bytes
  cases ch.transport <;> rfl

theorem State.statusBody_withoutSecrets (s : State) : s.withoutSecrets.statusBody = s.statusBody := by
  have ceremony : s.withoutSecrets.ceremonyByte = s.ceremonyByte := by
    unfold State.ceremonyByte State.withoutSecrets
    cases s.cec <;> rfl
  have custodians : s.withoutSecrets.ci.custodians.toList =
      s.ci.custodians.toList.map fun r => { r with key := 0 } := Vector.toList_map
  have states : (s.ci.custodians.toList.map fun r => { r with key := 0 }).map Custodian.statusByte =
      s.ci.custodians.toList.map Custodian.statusByte := List.map_map
  have checks : (s.ci.custodians.toList.map fun r => { r with key := 0 }).flatMap
      Custodian.checkBytes = s.ci.custodians.toList.flatMap Custodian.checkBytes := List.flatMap_map ..
  unfold State.statusBody
  rw [ceremony, custodians, states, checks]
  rfl

/-- A read's answer does not depend on a key value. -/
theorem Command.Reads.serve_withoutSecrets (reads : c.Reads) (s : State) :
    (s.withoutSecrets.serve c 0).map Served.answer = (s.serve c 0).map Served.answer := by
  rcases reads with rfl | rfl | rfl | rfl | ⟨i, rfl⟩ | ⟨n, rfl⟩
  · exact congrArg (fun body => some (ConsoleStatus.done, body)) s.statusBody_withoutSecrets
  · rfl
  · rfl
  · rfl
  · simp only [State.serve, State.serveReadEntry]
    split
    · rfl
    · rw [State.entry_withoutSecrets, Entry.bytes_withoutValues]
      rfl
  · simp only [State.serve, State.serveReadChannel]
    split
    · rfl
    · rw [State.channel_withoutSecrets, State.channelInService_withoutSecrets,
        Channel.bytes_withoutValue]
      rfl

theorem Command.Reads.waits (reads : c.Reads) :
    c.decidesAtTake = false ∧ c.actsAtTake = false ∧ (s.serve c 0).isSome = true := by
  rcases reads with rfl | rfl | rfl | rfl | ⟨i, rfl⟩ | ⟨n, rfl⟩ <;> exact ⟨rfl, rfl, rfl⟩

theorem State.portRead_finish (status : ConsoleStatus) (body : List Byte) (s : State) :
    (s.finish status body).portRead = some { status := status, body := body } := by
  simp only [State.portRead, State.finish_port]

/-- A command that waits for its completion and is served there has a row that takes it and serves it
(R92, R93; assumption log 4). -/
theorem State.commandRow_of_served {draw : Block} {r : Served} (port : s.ci.port = .ready reply)
    (passes : s.takeRefusal c = none) (decides : c.decidesAtTake = false)
    (acts : c.actsAtTake = false) (serves : (s.accept c).serve c draw = some r) :
    s.commandRow c draw = r.state.finish r.status r.body := by
  have executing : (s.accept c).ci.port = .executing c := rfl
  simp only [State.commandRow, port, State.takeCommand, passes,
    State.startCommand_of_waits decides acts, State.completeCommand, executing, serves]

/-- A read is refused at the take, or answered. -/
theorem Command.Reads.portRead (reads : c.Reads) (port : s.ci.port = .ready reply) :
    (s.commandRow c 0).portRead = match s.takeRefusal c with
      | Option.some refusal => some { status := refusal, body := [] }
      | Option.none => (((s.accept c).serve c 0).map Served.answer).map fun a =>
          { status := a.1, body := a.2 } := by
  obtain ⟨decides, acts, served⟩ := reads.waits (s := s.accept c)
  obtain ⟨r, serves⟩ := Option.isSome_iff_exists.mp served
  cases refusal : s.takeRefusal c with
  | some status =>
    rw [State.commandRow_of_refused port refusal, State.portRead_finish]
  | none =>
    rw [State.commandRow_of_served port refusal decides acts serves, State.portRead_finish, serves]
    rfl

/-- The checks of the take, and the acceptance, do not read a key value either. -/
theorem Command.Reads.take_withoutSecrets (reads : c.Reads) (s : State) :
    s.withoutSecrets.takeRefusal c = s.takeRefusal c ∧
      s.withoutSecrets.accept c = (s.accept c).withoutSecrets := by
  rcases reads with rfl | rfl | rfl | rfl | ⟨i, rfl⟩ | ⟨n, rfl⟩ <;> exact ⟨rfl, rfl⟩

theorem Command.Reads.commandRow_withoutSecrets (reads : c.Reads) (s : State) :
    (s.commandRow c 0).portRead = (s.withoutSecrets.commandRow c 0).portRead := by
  cases port : s.ci.port with
  | ready reply =>
    obtain ⟨refusal, accepted⟩ := reads.take_withoutSecrets s
    rw [reads.portRead port, reads.portRead (s := s.withoutSecrets) port, refusal, accepted,
      reads.serve_withoutSecrets]
  | off | starting | executing =>
    have same : s.withoutSecrets.ci.port = s.ci.port := rfl
    simp only [State.commandRow, same, port, State.portRead]

end Reads

/-- Settles O17: neither the checks of the take nor the body of a read's answer holds a key value. -/
theorem readsHideTheKeyValues : Obligations.ReadsHideTheKeyValues := by
  intro i s t u reads first second
  have row : ∃ c : Command, c.Reads ∧ ∀ s, exec i s = .next (s.commandRow c 0) := by
    rcases reads with rfl | rfl | rfl | rfl | ⟨n, rfl⟩ | ⟨n, rfl⟩
    · exact ⟨.status, .inl rfl, fun _ => rfl⟩
    · exact ⟨.readEvents, .inr (.inl rfl), fun _ => rfl⟩
    · exact ⟨.readTamperRecord, .inr (.inr (.inl rfl)), fun _ => rfl⟩
    · exact ⟨.readMesh, .inr (.inr (.inr (.inl rfl))), fun _ => rfl⟩
    · exact ⟨.readEntry n, .inr (.inr (.inr (.inr (.inl ⟨n, rfl⟩)))), fun _ => rfl⟩
    · exact ⟨.readChannel n, .inr (.inr (.inr (.inr (.inr ⟨n, rfl⟩)))), fun _ => rfl⟩
  obtain ⟨c, reads, row⟩ := row
  rw [row] at first second
  cases first
  cases second
  exact reads.commandRow_withoutSecrets s

end Sys2Proof.Machine

/-! The line highway by its rows (R61, R69, R70, R72, R78, R79, R80, R82): the frame position, the early
sync, the word of a slot, and the end of a slot and of a frame. -/

namespace Sys2Proof.Machine

/-! ## Channel records, all at once -/

section Records

variable {s : State} {c : ChannelNo}

theorem State.ofFn_channel (s : State) : Vector.ofFn (fun c => s.channel c) = s.channels :=
  Vector.ext fun i h => by simp [State.channel]

theorem State.map_channels (f : Channel → Channel) (s : State) :
    s.channels.map f = Vector.ofFn fun c => f (s.channel c) :=
  Vector.ext fun i h => by simp [State.channel]

theorem State.setChannel_channels (ch : Channel) (s : State) :
    (s.setChannel c ch).channels = Vector.ofFn fun d => if c = d then ch else s.channel d := by
  rw [← State.ofFn_channel]
  exact congrArg Vector.ofFn (funext fun d => State.channel_setChannel c d ch s)

theorem State.mapChannel_eq (f : Channel → Channel) (s : State) :
    s.mapChannel c f =
      s.withChannels (Vector.ofFn fun d => if c = d then f (s.channel d) else s.channel d) := by
  refine congrArg s.withChannels ((State.setChannel_channels _ s).trans ?_)
  refine congrArg Vector.ofFn (funext fun d => ?_)
  split
  · next own => rw [own]
  · rfl

/-- A record replaced by itself stands. -/
theorem State.setChannel_self (same : ch = s.channel c) : s.setChannel c ch = s := by
  subst same
  have channels : (s.setChannel c (s.channel c)).channels = s.channels := by
    rw [State.setChannel_channels, ← State.ofFn_channel]
    refine congrArg Vector.ofFn (funext fun d => ?_)
    split
    · next own => rw [own]
    · rfl
  exact congrArg s.withChannels channels

/-- No reply word in progress is none left. -/
theorem State.withTx_self (idle : s.lhi.tx = none) : s.withLhi { s.lhi with tx := none } = s := by
  rw [← idle]
  rfl

end Records

/-! ## The frame position (R70, R78, R82) -/

theorem Channel.timeOut_of_none {ch : Channel} {n : Nat} (idle : ch.assembly = none) :
    ch.timeOut n = ch := by
  simp only [Channel.timeOut, idle]

theorem Channel.timeOut_of_some {ch : Channel} {n : Nat} {a : Assembly}
    (standing : ch.assembly = some a) :
    ch.timeOut n = if n ≤ a.frames then { ch with
      assembly := none
      refusal := some { kind := a.kind, tag := a.tag, status := .broken,
                        superseded := ch.refusal.isSome } } else ch := by
  simp only [Channel.timeOut, standing, Channel.breakAssembly_of_some standing, Channel.refuse]

/-- Settles O19: each row by the position it finds. -/
theorem framePositionFollowsHfs : Obligations.FramePositionFollowsHfs := by
  refine ⟨fun s gap => ?_, fun s still => ?_, fun s n enabling => ?_, fun s c gap => ?_⟩
  · simp only [exec, execFrameStart, gap]
    rfl
  · rcases still with off | ⟨n, enabling⟩
    · simp only [exec, execFrameStart, execEarlyFrameSync, off, and_self]
    · simp only [exec, execFrameStart, execEarlyFrameSync, enabling, and_self]
  · simp only [exec, execHighwayRunning, enabling]
    rfl
  · have runs : exec (.assemblyTimeout c) s =
        .next (s.setChannel c ((s.channel c).timeOut s.lhi.compared)) := by
      simp only [exec, execAssemblyTimeout, gap, State.mapChannel]
    rw [runs]
    refine ⟨fun idle => ?_, fun a standing => ⟨fun fewer => ?_, fun reached => ?_⟩⟩
    · rw [State.setChannel_self (Channel.timeOut_of_none idle)]
    · rw [Channel.timeOut_of_some standing, if_neg (Nat.not_le.mpr fewer), State.setChannel_self rfl]
    · rw [Channel.timeOut_of_some standing, if_pos reached]

/-! ## The early frame sync (R79, R80) -/

/-- The word in progress is cut on its own channel alone. -/
theorem State.cutWord_eq (s : State) : s.cutWord = { s with
    channels := Vector.ofFn fun c => match s.lhi.tx with
      | none => s.channel c
      | some tx => if tx.channel = c then (s.channel c).wordCut tx.source else s.channel c
    lhi.tx := none } := by
  unfold State.cutWord
  cases tx : s.lhi.tx with
  | none =>
    dsimp only
    rw [State.ofFn_channel]
    exact (State.withTx_self tx).symm
  | some tx =>
    dsimp only
    rw [State.mapChannel_eq]
    rfl

theorem State.cutWord_channel (c : ChannelNo) (s : State) : s.cutWord.channel c =
    match s.lhi.tx with
    | none => s.channel c
    | some tx => if tx.channel = c then (s.channel c).wordCut tx.source else s.channel c := by
  rw [State.cutWord_eq]
  exact Vector.getElem_ofFn c.isLt

/-- What the cut and the break leave of each record is what the rules say of it (R61, R79, R80). -/
theorem Channel.wordCut_eq (source : WordSource) (ch : Channel) : ch.wordCut source =
    match source with
    | .header => { ch with sent := none }
    | .refusal f =>
      match ch.refusal with
      | none => { ch with refusal := some f }
      | some newer => { ch with refusal := some { newer with superseded := true } }
    | .body | .fill => ch := by
  cases source with
  | refusal f => cases refusal : ch.refusal <;> simp only [Channel.wordCut, Channel.returnRefusal, refusal]
  | header | body | fill => rfl

theorem Channel.breakAssembly_eq (ch : Channel) : ch.breakAssembly =
    match ch.assembly with
    | none => ch
    | some a => { ch with
        assembly := none
        refusal := some { kind := a.kind, tag := a.tag, status := .broken,
                          superseded := ch.refusal.isSome } } := by
  cases assembly : ch.assembly with
  | none => rw [Channel.breakAssembly_of_none assembly]
  | some a => rw [Channel.breakAssembly_of_some assembly, Channel.refuse]

/-- Settles O20: the cut word and the broken assemblies, record by record. -/
theorem earlySyncBreaksTheFrame : Obligations.EarlySyncBreaksTheFrame := by
  intro s slot bit inside cut broken
  have runs : exec .earlyFrameSync s =
      .next (((s.cutWord.mapChannels Channel.breakAssembly).raiseEvent .frameSlip).moveTo .gap) := by
    simp only [exec, execEarlyFrameSync, inside]
  have channels : s.cutWord.channels.map Channel.breakAssembly =
      Vector.ofFn fun c => broken (cut c) := by
    rw [State.map_channels]
    refine congrArg Vector.ofFn (funext fun c => ?_)
    have cuts : s.cutWord.channel c = cut c := by
      rw [State.cutWord_channel]
      dsimp only [cut]
      cases s.lhi.tx with
      | none => rfl
      | some tx => exact if_congr Iff.rfl (Channel.wordCut_eq tx.source (s.channel c)) rfl
    exact (Channel.breakAssembly_eq _).trans (congrArg broken cuts)
  rw [runs, State.mapChannels, channels, State.cutWord_eq]
  rfl

/-! ## The word of a slot (R61, R69, R80, R87) -/

/-- In an unassigned slot, and outside a slot, no reply word is in progress (R69). -/
theorem State.HighwayLaw.tx_of_unassigned {s : State} (h : s.HighwayLaw)
    (idle : (∀ slot bit, s.lhi.highway ≠ .running (.inFrame slot bit)) ∨
      ∃ slot bit, s.lhi.highway = .running (.inFrame slot bit) ∧ s.lhi.active.channel slot = none) :
    s.lhi.tx = none := by
  rcases idle with outside | ⟨slot, bit, inside, unassigned⟩
  · exact h.tx_eq_none outside
  · by_contra standing
    obtain ⟨tx, present⟩ := Option.ne_none_iff_exists'.mp standing
    obtain ⟨slot', bit', inside', assigned⟩ := h.word tx present
    cases inside.symm.trans inside'
    nomatch unassigned.symm.trans assigned

theorem State.driven_of_tx {s : State} {slot bit : Nat} {tx : TxWord}
    (inside : s.lhi.highway = .running (.inFrame slot bit)) (word : s.lhi.tx = some tx) :
    s.drivenMark = some tx.mark ∧ s.drivenBit = some (tx.data.getLsbD bit) := by
  simp only [State.drivenMark, State.drivenBit, inside, word, Option.map_some, and_self]

theorem State.driven_of_none {s : State} (idle : s.lhi.tx = none) :
    s.drivenMark = none ∧ s.drivenBit = none := by
  refine ⟨congrArg (Option.map _) idle, ?_⟩
  unfold State.drivenBit
  rw [idle]
  split <;> trivial

/-- The fields of Table 5-6 stand at their places in a reply header. -/
theorem replyHeader_fields (kind : KindCode) (length : Nat) (tag : Byte) (superseded : Bool)
    (status : ReplyStatus) :
    let w := replyHeader kind length tag superseded status
    w.extractLsb' 30 2 = kind ∧ w.extractLsb' 25 5 = BitVec.ofNat 5 length ∧
      w.extractLsb' 17 8 = tag ∧ w.getLsbD 16 = superseded ∧ w.extractLsb' 6 10 = 0 ∧
      w.extractLsb' 0 6 = BitVec.ofNat 6 status.code := by
  intro w
  simp only [w, replyHeader]
  refine ⟨?_, ?_, ?_, ?_, ?_, ?_⟩
  · iterate 4 rw [BitVec.extractLsb'_append_eq_of_le (by decide)]
    exact BitVec.extractLsb'_append_eq_left
  · iterate 4 rw [BitVec.extractLsb'_append_eq_of_le (by decide)]
    exact BitVec.extractLsb'_append_eq_right
  · iterate 3 rw [BitVec.extractLsb'_append_eq_of_le (by decide)]
    exact BitVec.extractLsb'_append_eq_right
  · iterate 2 rw [BitVec.getLsbD_append, if_neg (by decide)]
    rw [BitVec.getLsbD_append, if_pos (by decide)]
    cases superseded <;> rfl
  · rw [BitVec.extractLsb'_append_eq_of_le (by decide)]
    exact BitVec.extractLsb'_append_eq_right
  · exact BitVec.extractLsb'_append_eq_right

/-! ### The choice of the word, by what stands to be sent (R61) -/

section Choice

variable {c : ChannelNo} {ch : Channel}

theorem Channel.chooseWord_of_sent {r : Reply} {rest : List Reply} {n : Nat}
    (replies : ch.replies = r :: rest) (sent : ch.sent = some n) : ch.chooseWord c =
      ({ channel := c, data := r.word n, mark := n == 0,
         source := if n = 0 then .header else .body }, ch) := by
  simp only [Channel.chooseWord, replies, sent]

theorem Channel.chooseWord_of_refusal {f : Refused} (idle : ch.sent = none ∨ ch.replies = [])
    (refusal : ch.refusal = some f) : ch.chooseWord c =
      ({ channel := c, data := f.word, mark := true, source := .refusal f },
        { ch with refusal := none }) := by
  rcases idle with unsent | empty
  · cases replies : ch.replies <;> simp only [Channel.chooseWord, replies, unsent, refusal]
  · simp only [Channel.chooseWord, empty, refusal]

theorem Channel.chooseWord_of_reply {r : Reply} {rest : List Reply}
    (replies : ch.replies = r :: rest) (unsent : ch.sent = none) (free : ch.refusal = none) :
    ch.chooseWord c = ({ channel := c, data := r.header, mark := true, source := .header },
      { ch with sent := some 0 }) := by
  simp only [Channel.chooseWord, replies, unsent, free]

theorem Channel.chooseWord_of_none (empty : ch.replies = []) (free : ch.refusal = none) :
    ch.chooseWord c = ({ channel := c, data := 0, mark := false, source := .fill }, ch) := by
  simp only [Channel.chooseWord, empty, free]

end Choice

theorem exec_slotWordFixed {s : State} {slot : Nat} {c : ChannelNo} {tx : TxWord} {ch : Channel}
    (first : s.lhi.highway = .running (.inFrame slot 31)) (unfixed : s.lhi.tx = none)
    (assigned : s.lhi.active.channel slot = some c)
    (chosen : (s.channel c).chooseWord c = (tx, ch)) :
    exec .slotWordFixed s =
      .next { s.setChannel c ch with lhi.tx := some tx } := by
  have fixes : s.fixWord c = { s.setChannel c ch with lhi.tx := some tx } := by
    simp only [State.fixWord, chosen]
    rfl
  rw [← fixes]
  simp only [exec, execSlotWordFixed]
  split
  · next slot' first' _ =>
    cases first.symm.trans first'
    rw [assigned]
  · next other => exact absurd unfixed (other slot first)

/-- As a bit period ends, its bit is sampled, with the mark in the first alone (R69). -/
theorem State.tick_inFrame {s : State} {slot bit : Nat} {r : RxWord}
    (inside : s.lhi.highway = .running (.inFrame slot (bit + 1)))
    (goes : bit + 1 = 31 → s.lhi.tx ≠ none ∨ s.lhi.active.channel slot = none)
    (samples : sampleBit s.pins (bit + 1) s.lhi.rx = some r) :
    s.tick.lhi.highway = .running (.inFrame slot bit) ∧ s.tick.lhi.rx = some r ∧
      s.tick.lhi.tx = s.lhi.tx := by
  have moves : s.tick.lhi = { s.lhi with
      highway := .running (.inFrame slot bit), rx := some r } := by
    simp only [State.tick, LineHighway.tick, inside]
    rw [if_neg, samples, Nat.add_sub_cancel]
    rintro (zero | ⟨first, unfixed, assigned⟩)
    · omega
    · rcases goes first with fixed | unassigned
      · exact fixed unfixed
      · simp [unassigned] at assigned
  rw [moves]
  exact ⟨rfl, rfl, rfl⟩

/-- Settles O21: the lines by the word in progress, the choice of the word by what stands to be sent, and
the sample of a bit period by its place in the slot. -/
theorem slotWordIsFixed : Obligations.SlotWordIsFixed := by
  refine ⟨fun s law => ⟨fun slot bit tx => State.driven_of_tx, fun idle =>
    State.driven_of_none (law.tx_of_unassigned idle)⟩, replyHeader_fields, ?_, ?_, ?_⟩
  · intro s slot first unassigned
    simp only [exec, execSlotWordFixed]
    split
    · next slot' first' _ =>
      cases first.symm.trans first'
      rw [unassigned]
    · rfl
  · intro s slot bit law empty below inside waits
    have runs : step s = .next s.tick := by
      unfold step
      rw [empty]
    have goes : bit + 1 = 31 → s.lhi.tx ≠ none ∨ s.lhi.active.channel slot = none := fun first =>
      waits.resolve_left (by omega)
    by_cases first : bit = 30
    · subst first
      obtain ⟨r, samples, mark, data⟩ := sampleBit_first s.pins s.lhi.rx
      obtain ⟨position, received, word⟩ := State.tick_inFrame inside goes samples
      exact ⟨s.tick, r, runs, position, received, word, fun _ => ⟨mark, data⟩, fun later => by omega⟩
    · obtain ⟨old, standing⟩ := Option.ne_none_iff_exists'.mp
        (law.received.mpr ⟨slot, bit + 1, inside, by omega⟩)
      obtain ⟨r, samples, mark, data⟩ := sampleBit_later s.pins (bit + 1) (by omega) old
      obtain ⟨position, received, word⟩ := State.tick_inFrame inside goes (standing ▸ samples)
      refine ⟨s.tick, r, runs, position, received, word, fun same => absurd same first,
        fun _ => ⟨old, standing, mark, fun n => (data n).trans ?_⟩⟩
      by_cases own : n = bit + 1
      · rw [own]
      · simp [own]
  · intro s slot c first unfixed assigned
    refine ⟨fun r rest n replies sent => ?_, fun f idle refusal => ?_, fun r rest replies unsent free => ?_,
      fun replies free => ?_⟩
    · rw [exec_slotWordFixed first unfixed assigned (Channel.chooseWord_of_sent replies sent),
        State.setChannel_self rfl]
      cases n <;> rfl
    · exact exec_slotWordFixed first unfixed assigned (Channel.chooseWord_of_refusal idle refusal)
    · exact exec_slotWordFixed first unfixed assigned
        (Channel.chooseWord_of_reply replies unsent free)
    · rw [exec_slotWordFixed first unfixed assigned (Channel.chooseWord_of_none replies free),
        State.setChannel_self rfl]

end Sys2Proof.Machine

/-! The end of a slot and of a frame (R69, R70, R72, R74, R78, R80). -/

namespace Sys2Proof.Machine

/-! ## One channel record, changed twice -/

section Records

variable {s : State} {c : ChannelNo}

theorem State.mapChannel_setChannel (f : Channel → Channel) (ch : Channel) :
    (s.setChannel c ch).mapChannel c f = s.setChannel c (f ch) := by
  have channels : ((s.channels.set c ch).set c (f ch)) = s.channels.set c (f ch) :=
    Vector.ext fun i h => by
      by_cases own : c.val = i <;> simp [own]
  rw [State.mapChannel, State.channel_setChannel_self]
  exact congrArg s.withChannels channels

end Records

/-! ## The two halves of a slot's end (R74, R80) -/

/-- The word in progress counts as sent on the record of its channel (R80). -/
def State.sentOn (s : State) (ch : Channel) : Channel :=
  match s.lhi.tx with
  | none => ch
  | some tx => ch.wordSent tx.source

/-- What the two halves of a slot's end make of the record of its channel (R74, R80). -/
def State.slotEnded (s : State) (mark : Bool) (w : Word) (sentFirst : Bool) (ch : Channel) : Channel :=
  if sentFirst then (s.sentOn ch).receive mark w else s.sentOn (ch.receive mark w)

section Halves

variable {s : State} {slot bit : Nat} {c : ChannelNo} {r : RxWord}

theorem State.countWord_unassigned (law : s.HighwayLaw)
    (inside : s.lhi.highway = .running (.inFrame slot bit))
    (unassigned : s.lhi.active.channel slot = none) : s.countWord = s := by
  have idle := law.tx_of_unassigned (.inr ⟨slot, bit, inside, unassigned⟩)
  simp only [State.countWord, idle]

theorem State.receiveWord_unassigned {x : Option RxWord}
    (unassigned : s.lhi.active.channel slot = none) : s.receiveWord slot x = s := by
  simp only [State.receiveWord, unassigned]

theorem State.receiveWord_assigned (assigned : s.lhi.active.channel slot = some c) :
    s.receiveWord slot (some r) = s.mapChannel c (Channel.receive r.mark r.data) := by
  simp only [State.receiveWord, assigned]

/-- A word in progress is a word of the slot's channel (R69). -/
theorem State.countWord_assigned (law : s.HighwayLaw)
    (inside : s.lhi.highway = .running (.inFrame slot bit))
    (assigned : s.lhi.active.channel slot = some c) :
    s.countWord = (s.mapChannel c s.sentOn).withLhi { s.lhi with tx := none } := by
  cases word : s.lhi.tx with
  | none =>
    have same : s.mapChannel c s.sentOn = s :=
      State.setChannel_self (by simp only [State.sentOn, word])
    simp only [State.countWord, word, same]
    exact (State.withTx_self word).symm
  | some tx =>
    obtain ⟨slot', bit', inside', assigned'⟩ := law.word tx word
    cases inside.symm.trans inside'
    cases assigned.symm.trans assigned'
    have sent : s.sentOn = Channel.wordSent tx.source :=
      funext fun ch => by simp only [State.sentOn, word]
    simp only [State.countWord, word, sent]

/-- The two halves, in either order, change the record of the slot's channel alone. -/
theorem State.halves_assigned (law : s.HighwayLaw)
    (inside : s.lhi.highway = .running (.inFrame slot bit))
    (assigned : s.lhi.active.channel slot = some c) (sentFirst : Bool) :
    (if sentFirst then s.countWord.receiveWord slot (some r)
      else (s.receiveWord slot (some r)).countWord) =
      (s.setChannel c (s.slotEnded r.mark r.data sentFirst (s.channel c))).withLhi
        { s.lhi with tx := none } := by
  let cleared : State → State := fun t => t.withLhi { s.lhi with tx := none }
  cases sentFirst with
  | true =>
    rw [if_pos rfl, State.countWord_assigned law inside assigned]
    calc (cleared (s.mapChannel c s.sentOn)).receiveWord slot (some r)
      _ = (cleared (s.mapChannel c s.sentOn)).mapChannel c (Channel.receive r.mark r.data) :=
        State.receiveWord_assigned (s := cleared (s.mapChannel c s.sentOn)) assigned
      _ = cleared ((s.mapChannel c s.sentOn).mapChannel c (Channel.receive r.mark r.data)) := rfl
      _ = cleared (s.setChannel c ((s.sentOn (s.channel c)).receive r.mark r.data)) :=
        congrArg cleared (State.mapChannel_setChannel _ _)
  | false =>
    have kept : (s.mapChannel c (Channel.receive r.mark r.data)).HighwayLaw :=
      ⟨law.position, law.word, law.received, law.sampled, law.active, law.waiting, law.enabling,
        law.timeout, law.off⟩
    rw [if_neg (by decide), State.receiveWord_assigned assigned,
      State.countWord_assigned kept inside assigned]
    exact congrArg cleared (State.mapChannel_setChannel s.sentOn _)

end Halves

/-! ## The row (R69, R70, R72, R78) -/

/-- The state with the levels that the row brings at the input lines (assumption log 6). -/
def State.underLines (hrd hrm : Word) (s : State) : State :=
  s.withPins { s.pins with hrd := hrd, hrm := hrm }

theorem State.countWord_active (s : State) : s.countWord.lhi.active = s.lhi.active := by
  unfold State.countWord
  cases s.lhi.tx <;> rfl

section Row

variable {s : State} {slot bit : Nat} {hrd hrm : Word} {sentFirst : Bool}

/-- The levels of a row at the input lines change nothing that the highway's law speaks of. -/
theorem State.HighwayLaw.underLines (law : s.HighwayLaw) (hrd hrm : Word) :
    (s.underLines hrd hrm).HighwayLaw :=
  ⟨law.position, law.word, law.received, law.sampled, law.active, law.waiting, law.enabling,
    law.timeout, law.off⟩

/-- The row hands over the word that the slot receives, and the slot is over. -/
theorem exec_slotEnd (law : s.HighwayLaw) (inside : s.lhi.highway = .running (.inFrame slot bit))
    {mark : Bool} {w : Word} (receives : s.Receives bit hrd hrm mark w) :
    exec (.slotEnd hrd hrm sentFirst) s =
      .next ((s.underLines hrd hrm).endSlot slot
        (some { mark := mark, data := w }) sentFirst) := by
  obtain ⟨r, samples, got⟩ :=
    sampleRest_receives { s.pins with hrd := hrd, hrm := hrm } s law slot bit inside
  obtain ⟨rfl, rfl⟩ := got.unique receives
  rw [← samples]
  simp only [exec, execSlotEnd, inside]
  rfl

/-- A slot that is not the last is followed by the next (R70). -/
theorem State.endSlot_of_more {received : Option RxWord} (more : slot + 1 < s.lhi.active.length) :
    s.endSlot slot received sentFirst =
      (if sentFirst then s.countWord.receiveWord slot received
        else (s.receiveWord slot received).countWord).moveTo (.inFrame (slot + 1) 31) := by
  unfold State.endSlot
  refine if_pos ?_
  cases sentFirst <;> simpa [State.countWord_active] using more

/-- The last slot completes the frame (R70). -/
theorem State.endSlot_of_last {received : Option RxWord} (last : s.lhi.active.length ≤ slot + 1) :
    s.endSlot slot received sentFirst =
      (if sentFirst then s.countWord.receiveWord slot received
        else (s.receiveWord slot received).countWord).completeFrame := by
  unfold State.endSlot
  refine if_neg ?_
  cases sentFirst <;> simpa [State.countWord_active] using last

/-- The two halves change nothing where the slot is unassigned. -/
theorem State.halves_unassigned (law : s.HighwayLaw)
    (inside : s.lhi.highway = .running (.inFrame slot bit))
    (unassigned : s.lhi.active.channel slot = none) (received : Option RxWord) :
    (if sentFirst then s.countWord.receiveWord slot received
      else (s.receiveWord slot received).countWord) = s := by
  rw [State.receiveWord_unassigned unassigned, State.countWord_unassigned law inside unassigned,
    State.receiveWord_unassigned unassigned, ite_self]

end Row

/-- A frame's completion counts an assembly's frame, and breaks it at the setting (R78). -/
theorem Channel.countFrame_eq (setting : Nat) (ch : Channel) : ch.countFrame setting =
    match ch.assembly with
    | none => ch
    | some a =>
      if a.frames + 1 < setting then { ch with assembly := some { a with frames := a.frames + 1 } }
      else { ch with
        assembly := none
        refusal := some { kind := a.kind, tag := a.tag, status := .broken,
                          superseded := ch.refusal.isSome } } := by
  cases assembly : ch.assembly with
  | none => simp only [Channel.countFrame, assembly]
  | some a =>
    simp only [Channel.countFrame, assembly]
    rw [Channel.timeOut_of_some rfl]
    by_cases fewer : a.frames + 1 < setting
    · rw [if_neg (Nat.not_le.mpr fewer), if_pos fewer]
    · rw [if_pos (Nat.not_lt.mp fewer), if_neg fewer]

theorem Channel.countSent_of_reply {ch : Channel} {r : Reply} {rest : List Reply}
    (replies : ch.replies = r :: rest) : ch.countSent =
      if ch.sent.getD 0 + 1 < r.body.length + 1 then { ch with sent := some (ch.sent.getD 0 + 1) }
      else { ch with replies := rest, sent := none, admitted := ch.admitted - 1 } := by
  simp only [Channel.countSent, replies]
  have length : r.length = r.body.length + 1 := rfl
  rw [length]
  by_cases more : ch.sent.getD 0 + 1 < r.body.length + 1
  · rw [if_neg (Nat.not_le.mpr more), if_pos more]
  · rw [if_pos (Nat.not_lt.mp more), if_neg more]

/-- Settles O22: the two halves of a slot's end on its channel, then the next slot. -/
theorem slotEndServesItsChannel : Obligations.SlotEndServesItsChannel := by
  refine ⟨fun ch r rest source replies reply => ?_, fun ch f => ⟨rfl, rfl⟩, ?_⟩
  · rcases reply with rfl | rfl <;> exact Channel.countSent_of_reply replies
  · intro s slot bit hrd hrm sentFirst law inside more
    have kept := law.underLines hrd hrm
    constructor
    · intro unassigned
      obtain ⟨r, -, receives⟩ :=
        sampleRest_receives (s.underLines hrd hrm).pins s law slot bit inside
      rw [exec_slotEnd (hrd := hrd) (hrm := hrm) law inside receives,
        State.endSlot_of_more (s := s.underLines hrd hrm) more,
        State.halves_unassigned kept inside unassigned]
      rfl
    · intro c mark w assigned receives sent ch
      rw [exec_slotEnd law inside receives, State.endSlot_of_more (s := s.underLines hrd hrm) more,
        State.halves_assigned kept inside assigned]
      rfl

/-- Settles O23: the two halves of the slot's end on its channel, then every assembly's frame counts. -/
theorem lastSlotCompletesTheFrame : Obligations.LastSlotCompletesTheFrame := by
  intro s slot bit hrd hrm mark w sentFirst law inside last receives sent own counted
  have kept := law.underLines hrd hrm
  have counts (ch : Channel) : ch.countFrame s.lhi.timeout = counted ch :=
    Channel.countFrame_eq s.lhi.timeout ch
  rw [exec_slotEnd law inside receives, State.endSlot_of_last (s := s.underLines hrd hrm) last]
  cases assigned : s.lhi.active.channel slot with
  | none =>
    have owns (c : ChannelNo) : s.channel c = own c := (if_neg (by simp [assigned])).symm
    have channels : s.channels.map (Channel.countFrame s.lhi.timeout) =
        Vector.ofFn fun c => counted (own c) := by
      rw [State.map_channels]
      exact congrArg Vector.ofFn (funext fun c => by rw [counts, owns])
    have idle := law.tx_of_unassigned (.inr ⟨slot, bit, inside, assigned⟩)
    rw [State.halves_unassigned kept inside assigned, ← channels, ← idle]
    rfl
  | some c =>
    have owns (d : ChannelNo) :
        (s.setChannel c (s.slotEnded mark w sentFirst (s.channel c))).channel d = own d := by
      rw [State.channel_setChannel]
      dsimp only [own]
      rw [assigned]
      by_cases same : c = d
      · rw [if_pos same, if_pos (congrArg some same), same]
        rfl
      · rw [if_neg same, if_neg fun equal => same (Option.some.inj equal)]
    have channels : (s.setChannel c (s.slotEnded mark w sentFirst (s.channel c))).channels.map
        (Channel.countFrame s.lhi.timeout) = Vector.ofFn fun c => counted (own c) := by
      rw [State.map_channels]
      exact congrArg Vector.ofFn (funext fun d => by rw [counts, owns])
    rw [State.halves_assigned kept inside assigned, ← channels]
    rfl

end Sys2Proof.Machine

/-! Admission of a completed message (R56, R57) and the selection of the Service Unit with the service
start of the request it takes (R26 to R32, R41, R42). -/

namespace Sys2Proof.Machine

/-! ## Admission (Table 4-3) -/

section Admission

variable {ch : Channel} {kind : KindCode} {tag : Byte} {length : Nat} {words : List Word}

theorem Channel.deliver_of_refused {status : ReplyStatus}
    (fails : ch.admission kind length words = .inl status) :
    ch.deliver kind tag length words = ch.refuse kind tag status := by
  simp only [Channel.deliver, fails]

theorem Channel.deliver_of_admitted {body : RequestBody}
    (passes : ch.admission kind length words = .inr body) :
    ch.deliver kind tag length words =
      { ch with requests := ch.requests ++ [{ tag := tag, body := body }],
                admitted := ch.admitted + 1 } := by
  simp only [Channel.deliver, passes]

/-- The admission checks of an OPEN channel from the third on, once the kind has its length. -/
theorem Channel.admission_of_length {n : Nat} (opened : ch.state = .opened)
    (known : requestLength? kind = some n) :
    ch.admission kind length words =
      if length ≠ n then .inl .badLength
      else
        match requestBody? kind words with
        | none => .inl .badField
        | some body => if ch.limit ≤ ch.admitted then .inl .limit else .inr body := by
  simp only [Channel.admission, opened, known] <;> rfl

/-- The kinds of Table 5-4 are the nonzero ones, each with its length. -/
theorem requestLength?_eq (known : kind ≠ 0) :
    requestLength? kind = some (if kind = 1 then 4 else if kind = 2 then 2 else 1) := by
  revert kind
  decide

theorem requestBody?_derive : requestBody? 1 words = (deriveBody? words).map .derive := rfl

theorem requestBody?_probe : requestBody? 2 words = (probeEntry? words).map .probe := rfl

theorem requestBody?_linkStatus : requestBody? 3 words = some .linkStatus := rfl

theorem deriveBody?_of_entry {e : EntryIndex}
    (index : headerEntry (words.getD 0 0) = e.val)
    (fits : ((words.getD 1 0).extractLsb' 0 16).toNat + headerCount (words.getD 0 0) - 1 ≤ 65535) :
    deriveBody? words = some
      { entry := e, generation := (words.getD 0 0).extractLsb' 0 8,
        count := ((words.getD 0 0).extractLsb' 8 2).toNat + 1,
        issuer := (words.getD 1 0).extractLsb' 16 16, sequence := (words.getD 1 0).extractLsb' 0 16,
        account := words.getD 2 0 ++ words.getD 3 0 } := by
  simp only [deriveBody?, entryIndex?_eq_some index]
  exact if_neg (Nat.not_lt.mpr fits)

theorem deriveBody?_of_bad
    (bad : 95 < headerEntry (words.getD 0 0) ∨
      65535 < ((words.getD 1 0).extractLsb' 0 16).toNat + headerCount (words.getD 0 0) - 1) :
    deriveBody? words = none := by
  cases index : entryIndex? (headerEntry (words.getD 0 0)) with
  | none => simp only [deriveBody?, index]
  | some e =>
    simp only [deriveBody?, index]
    refine if_pos (bad.resolve_left fun high => ?_)
    exact nomatch (entryIndex?_eq_none high).symm.trans index

/-- A number up to 95 is an entry's index. -/
theorem exists_entryIndex {n : Nat} (low : ¬95 < n) : ∃ e : EntryIndex, n = e.val :=
  ⟨⟨n, by omega⟩, rfl⟩

theorem kind_cases (known : kind ≠ 0) : kind = 1 ∨ kind = 2 ∨ kind = 3 := by
  revert kind
  decide

theorem Channel.admission_of_body {body : RequestBody} (opened : ch.state = .opened)
    (known : kind ≠ 0) (whole : length = if kind = 1 then 4 else if kind = 2 then 2 else 1)
    (fields : requestBody? kind words = some body) :
    ch.admission kind length words =
      if ch.limit ≤ ch.admitted then .inl .limit else .inr body := by
  rw [Channel.admission_of_length opened (requestLength?_eq known), if_neg (not_not.mpr whole), fields]

/-- A message of the right length with a field out of range is refused. -/
theorem Channel.deliver_of_badField (opened : ch.state = .opened)
    (known : kind ≠ 0) (whole : length = if kind = 1 then 4 else if kind = 2 then 2 else 1)
    (fields : requestBody? kind words = none) :
    ch.deliver kind tag length words = ch.refuse kind tag .badField := by
  refine Channel.deliver_of_refused ?_
  rw [Channel.admission_of_length opened (requestLength?_eq known), if_neg (not_not.mpr whole), fields]

/-- One with its fields in range is admitted below the limit. -/
theorem Channel.deliver_of_body {body : RequestBody} (opened : ch.state = .opened)
    (known : kind ≠ 0) (whole : length = if kind = 1 then 4 else if kind = 2 then 2 else 1)
    (fields : requestBody? kind words = some body) :
    ch.deliver kind tag length words =
      if ch.limit ≤ ch.admitted then ch.refuse kind tag .limit
      else { ch with requests := ch.requests ++ [{ tag := tag, body := body }],
                     admitted := ch.admitted + 1 } := by
  have decides := Channel.admission_of_body opened known whole fields
  split
  · next full => exact Channel.deliver_of_refused (decides.trans (if_pos full))
  · next room => exact Channel.deliver_of_admitted (decides.trans (if_neg room))

end Admission

/-- Settles O26: the checks of Table 4-3 one after the other, the fields by the kind. -/
theorem admissionChecksInOrder : Obligations.AdmissionChecksInOrder := by
  intro ch kind tag length words header first entry k sequence want badField refused admitted
  refine ⟨fun closed => ?_, fun halted => ?_, fun opened => ⟨fun zero => ?_, fun known short => ?_,
    fun known whole bad => ?_, fun known whole good full => ?_, fun whole room => ⟨fun link => ?_,
    fun e index => ⟨fun probe => ?_, fun derive fits => ?_⟩⟩⟩⟩
  · exact Channel.deliver_of_refused (by simp only [Channel.admission, closed])
  · exact Channel.deliver_of_refused (by simp only [Channel.admission, halted])
  · subst zero
    exact Channel.deliver_of_refused (by simp only [Channel.admission, opened]; rfl)
  · refine Channel.deliver_of_refused ?_
    rw [Channel.admission_of_length opened (requestLength?_eq known)]
    exact if_pos short
  · refine Channel.deliver_of_badField opened known whole ?_
    rcases kind_cases known with rfl | rfl | rfl
    · rw [requestBody?_derive, deriveBody?_of_bad]
      · rfl
      · exact bad.imp And.right And.right
    · have high : 95 < ((words.getD 1 0).extractLsb' 24 8).toNat := (bad.resolve_right nofun).2
      rw [requestBody?_probe, probeEntry?, entryIndex?_eq_none high]
      rfl
    · exact absurd bad (not_or.mpr ⟨fun own => own.1 rfl, fun own => nomatch own.1⟩)
  · have formed : ∃ body, requestBody? kind words = some body := by
      rcases kind_cases known with rfl | rfl | rfl
      · obtain ⟨e, index⟩ := exists_entryIndex fun high => good (.inl ⟨by decide, high⟩)
        refine ⟨_, congrArg (Option.map _) (deriveBody?_of_entry index ?_)⟩
        exact Nat.not_lt.mp fun long => good (.inr ⟨rfl, long⟩)
      · obtain ⟨e, index⟩ := exists_entryIndex fun high => good (.inl ⟨by decide, high⟩)
        exact ⟨_, congrArg (Option.map _) (entryIndex?_eq_some index)⟩
      · exact ⟨_, rfl⟩
    obtain ⟨body, fields⟩ := formed
    exact (Channel.deliver_of_body opened known whole fields).trans (if_pos full)
  · subst link
    refine (Channel.deliver_of_body opened (by decide) whole requestBody?_linkStatus).trans ?_
    exact if_neg (Nat.not_le.mpr room)
  · subst probe
    have fields : requestBody? 2 words = some (.probe e) :=
      congrArg (Option.map _) (entryIndex?_eq_some index)
    refine (Channel.deliver_of_body opened (by decide) whole fields).trans ?_
    exact if_neg (Nat.not_le.mpr room)
  · subst derive
    have fields := congrArg (Option.map RequestBody.derive) (deriveBody?_of_entry index fits)
    refine (Channel.deliver_of_body opened (by decide) whole fields).trans ?_
    exact if_neg (Nat.not_le.mpr room)

/-! ## The channel that the search stops at (R26) -/

section Search

variable {s : State} {c : ChannelNo}

theorem State.eligible_iff : (s.channel c).eligible = true ↔ s.Waits c := by
  simp [Channel.eligible, State.Waits]

/-- The search comes to a channel at its distance. -/
theorem searchOrder_getElem (pointer : ChannelNo) {i : Nat} (h : i < (searchOrder pointer).length) :
    ((searchOrder pointer)[i]).val = (pointer.val + 1 + i) % 8 := by
  simp [searchOrder]

theorem State.NextServed.selected (next : s.NextServed c) : s.selected = some c := by
  obtain ⟨-, waits, first⟩ := next
  have length : (searchOrder s.su.pointer).length = 8 := rfl
  have below := s.su.pointer.isLt
  have within := c.isLt
  refine List.find?_eq_some_iff_getElem.mpr ⟨State.eligible_iff.mpr waits,
    searchDistance s.su.pointer c, ?_, ?_, fun j before => ?_⟩
  · rw [length]
    exact Nat.mod_lt _ (by decide)
  · apply Fin.ext
    rw [searchOrder_getElem, searchDistance]
    omega
  · have early : j < 8 := Nat.lt_trans before (Nat.mod_lt _ (by decide))
    refine Bool.not_eq_true' _ ▸ Bool.eq_false_iff.mpr fun eligible => ?_
    have late := first _ (State.eligible_iff.mp eligible)
    simp only [searchDistance, searchOrder_getElem] at before late
    omega

/-- The state with the head request of a channel taken (R26). -/
def State.taking (c : ChannelNo) (rest : List Request) (s : State) : State :=
  (s.setChannel c { s.channel c with requests := rest }).withSu { s.su with pointer := c }

theorem exec_suSelection {r : Request} {rest : List Request} (next : s.NextServed c)
    (head : (s.channel c).requests = r :: rest) :
    exec .suSelection s = (s.taking c rest).startService c r := by
  have selected := next.selected
  change execSuSelection s = _
  unfold execSuSelection
  rw [next.1, selected]
  dsimp only
  rw [head]
  rfl

@[simp] theorem State.taking_channel (rest : List Request) :
    (s.taking c rest).channel c = { s.channel c with requests := rest } :=
  State.channel_setChannel_self c _ s

@[simp] theorem State.taking_entry (rest : List Request) (i : EntryIndex) :
    (s.taking c rest).entry i = s.entry i := rfl

/-- A reply of the channel that was taken from stands at the end of its queue (R31). -/
theorem State.taking_reply (rest : List Request) (reply : Reply) :
    (s.taking c rest).reply c reply = { s.setChannel c { s.channel c with
      requests := rest, replies := (s.channel c).replies ++ [reply] } with su.pointer := c } :=
  congrArg (fun t => t.withSu { s.su with pointer := c }) (State.mapChannel_setChannel _ _)

end Search

/-! ## The service-time checks (Table 3-1) -/

section Checks

variable {s : State} {c : ChannelNo} {binding : Option IssuerTag} {issuer : Option IssuerTag}
  {e : Entry} {d : EntryMeta}

theorem Entry.rights_of_data (data : e.data? = some d) : e.rights = d.rights := by
  simp only [Entry.rights, data]

theorem serviceCheck_of_no_right (refused : e.rights.getLsbD c.val = false) :
    serviceCheck c binding issuer e = some .notPermitted := by
  simp only [serviceCheck, hasRight, refused, Bool.not_false, if_true]

theorem serviceCheck_of_wrongIssuer (right : e.rights.getLsbD c.val = true) (data : e.data? = some d)
    (wrong : binding ≠ some d.issuer ∨ issuer.getD d.issuer ≠ d.issuer) :
    serviceCheck c binding issuer e = some .wrongIssuer := by
  simp only [serviceCheck, hasRight, right, Bool.not_true, data]
  cases binding with
  | none => rfl
  | some b => exact if_pos (wrong.imp_left fun other equal => other (congrArg some equal))

theorem serviceCheck_of_bound (right : e.rights.getLsbD c.val = true) (data : e.data? = some d)
    (own : issuer.getD d.issuer = d.issuer) :
    serviceCheck c (some d.issuer) issuer e = if e.isHeld then none else some .noEntry := by
  simp only [serviceCheck, hasRight, right, Bool.not_true, data]
  have agrees : ¬(d.issuer ≠ d.issuer ∨ issuer.getD d.issuer ≠ d.issuer) := by simp [own]
  exact if_neg agrees

theorem deriveCheck_of_held {body : DeriveBody} {current : Generation} {previous : Option Generation}
    {g : Generation} (selects : (Entry.held d false current previous).select body.generation = some g) :
    deriveCheck body (.held d false current previous) =
      if d.allowance < body.count then .inl .allowanceShort else .inr g := by
  simp only [deriveCheck, selects]
  rfl

theorem deriveCheck_of_no_generation {body : DeriveBody} {current : Generation}
    {previous : Option Generation}
    (none : (Entry.held d false current previous).select body.generation = none) :
    deriveCheck body (.held d false current previous) = .inl .noGeneration := by
  simp only [deriveCheck, none, Bool.false_eq_true, if_false]

/-- The generation that a requested number selects (R6). -/
theorem Entry.select_eq_some_iff {current g : Generation} {previous : Option Generation}
    {n : Byte} : (Entry.held d suspended current previous).select n = some g ↔
      (n = 0 ∨ n = current.number) ∧ g = current ∨
        n ≠ 0 ∧ n ≠ current.number ∧ previous = some g ∧ g.number = n := by
  by_cases own : n = 0 ∨ n = current.number
  · have picks : (Entry.held d suspended current previous).select n = some current := if_pos own
    rw [picks]
    constructor
    · rintro ⟨⟩
      exact .inl ⟨own, rfl⟩
    · rintro (⟨-, rfl⟩ | ⟨zero, other, -⟩)
      · rfl
      · exact absurd own (not_or.mpr ⟨zero, other⟩)
  · obtain ⟨nonzero, other⟩ := not_or.mp own
    have picks : (Entry.held d suspended current previous).select n =
        match previous with
        | some p => if n = p.number then some p else none
        | none => none := if_neg own
    rw [picks]
    cases previous with
    | none =>
      constructor
      · nofun
      · rintro (⟨is, -⟩ | ⟨-, -, absent, -⟩)
        · exact absurd is own
        · nomatch absent
    | some p =>
      constructor
      · intro found
        obtain ⟨equal, same⟩ := Option.ite_none_right_eq_some.mp found
        cases same
        exact .inr ⟨nonzero, other, rfl, equal.symm⟩
      · rintro (⟨is, -⟩ | ⟨-, -, same, equal⟩)
        · exact absurd is own
        · cases same
          exact if_pos equal.symm

theorem Entry.select_of_named {current : Generation} {previous : Option Generation} {n : Byte}
    (named : n = 0 ∨ n = current.number ∨ ∃ g, previous = some g ∧ n = g.number) :
    ∃ g, (Entry.held d suspended current previous).select n = some g := by
  by_cases own : n = 0 ∨ n = current.number
  · exact ⟨current, Entry.select_eq_some_iff.mpr (.inl ⟨own, rfl⟩)⟩
  · obtain ⟨nonzero, other⟩ := not_or.mp own
    obtain ⟨g, standing, number⟩ := (named.resolve_left nonzero).resolve_left other
    exact ⟨g, Entry.select_eq_some_iff.mpr (.inr ⟨nonzero, other, standing, number.symm⟩)⟩

end Checks

/-! ## The service start (R27, R30, R41, R42) -/

section Start

variable {s : State} {c : ChannelNo} {r : Request} {i : EntryIndex}

theorem State.startService_probe (body : r.body = .probe i) :
    s.startService c r = .next (s.startProbe c r i) := by
  simp only [State.startService, body]

theorem State.startProbe_of_refused {status : ReplyStatus}
    (refused : serviceCheck c (s.channel c).binding none (s.entry i) = some status) :
    s.startProbe c r i = s.failRequest c r i status := by
  simp only [State.startProbe, refused]

theorem State.startProbe_of_passed
    (passed : serviceCheck c (s.channel c).binding none (s.entry i) = none) :
    s.startProbe c r i = s.reply c
      { kind := kindProbe, tag := r.tag, status := .ok, body := probeWords (s.entry i) } := by
  simp only [State.startProbe, passed]

theorem State.startService_derive_refused {b : DeriveBody} {status : ReplyStatus}
    (body : r.body = .derive b)
    (refused : serviceCheck c (s.channel c).binding (some b.issuer) (s.entry b.entry) = some status) :
    s.startService c r = .next (s.failRequest c r b.entry status) := by
  simp only [State.startService, body, State.startDerive, refused]

theorem State.startService_derive_short {b : DeriveBody} {status : ReplyStatus}
    (body : r.body = .derive b)
    (passed : serviceCheck c (s.channel c).binding (some b.issuer) (s.entry b.entry) = none)
    (refused : deriveCheck b (s.entry b.entry) = .inl status) :
    s.startService c r = .next (s.failRequest c r b.entry status) := by
  simp only [State.startService, body, State.startDerive, passed, refused]

theorem State.startService_derive_passed {b : DeriveBody} {g transport : Generation}
    (body : r.body = .derive b)
    (passed : serviceCheck c (s.channel c).binding (some b.issuer) (s.entry b.entry) = none)
    (selects : deriveCheck b (s.entry b.entry) = .inr g)
    (key : (s.channel c).transport = some transport) :
    s.startService c r = .next (s.bindDerive c r.tag b
      { master := g.value, number := g.number, entry := b.entry, transport := transport.value }) := by
  simp only [State.startService, body, State.startDerive, passed, selects, key]

theorem State.failRequest_of_permitted {status : ReplyStatus} (other : status ≠ .notPermitted) :
    s.failRequest c r i status = s.reply c (r.answer status) := by
  simp only [State.failRequest, if_neg other]

/-- A rights violation is reported and does not touch the reply (R30). -/
theorem State.failRequest_notPermitted :
    s.failRequest c r i .notPermitted =
      { s.reply c (r.answer .notPermitted) with
        ci.flags := s.ci.flags ||| 0x008
        ci.violations.pair := some (s.ci.violations.pair.getD (c, i))
        ci.violations.count := min (s.ci.violations.count + 1) 255 } := rfl

theorem crossesThreshold_iff {threshold before after : Nat} :
    crossesThreshold threshold before after = true ↔
      threshold ≠ 0 ∧ threshold ≤ before ∧ after < threshold := by
  simp [crossesThreshold, and_assoc]

/-- The charge of an ACTIVE or SUSPENDED entry (R15, R16, R18). -/
theorem State.chargeEntry_of_held {d : EntryMeta} {suspended : Bool} {current : Generation}
    {previous : Option Generation} {k : Nat} (held : s.entry i = .held d suspended current previous) :
    s.chargeEntry i k =
      { s.setEntry i (.held { d with allowance := d.allowance - k,
                                     used := min (d.used + k) 4294967295 }
          suspended current previous) with
        ci.flags := if s.kt.threshold ≠ 0 ∧ s.kt.threshold ≤ d.allowance ∧
                        d.allowance - k < s.kt.threshold
                    then s.ci.flags ||| 0x010 else s.ci.flags } := by
  have allowance : (s.entry i).allowance = d.allowance := by
    rw [held]
    rfl
  have charged : (s.entry i).charge k =
      .held { d with allowance := d.allowance - k, used := min (d.used + k) 4294967295 }
        suspended current previous := by
    rw [held]
    rfl
  simp only [State.chargeEntry, allowance, charged, State.raiseIf, crossesThreshold_iff]
  split <;> rfl

end Start

/-- Settles O27: the two requests that end at their service start. -/
theorem selectionAnswersAtOnce : Obligations.SelectionAnswersAtOnce := by
  intro s c tag rest next ch answered
  refine ⟨fun head => ?_, fun i d suspended current previous head held right bound => ?_⟩
  · have opened : ch.state = .opened := next.2.1.1
    rw [exec_suSelection next head]
    refine congrArg Host.Outcome.next ((State.taking_reply rest _).trans ?_)
    have words : (s.taking c rest).linkWords ((s.taking c rest).channel c) =
        [1#8 ++ BitVec.ofNat 8 ch.limit ++ BitVec.ofNat 8 ch.admitted ++
           BitVec.ofNat 8 (match s.tm.state with
             | .unarmed => 0 | .learning => 1 | .armed => 2 | .tripped => 3),
         BitVec.ofNat 16 s.pwr.restartCount ++ 0#15 ++ BitVec.ofBool s.ec.position.isSome] := by
      have monitor : s.tm.state.code = (match s.tm.state with
          | .unarmed => 0 | .learning => 1 | .armed => 2 | .tripped => 3) := by
        cases s.tm.state <;> rfl
      simp only [State.linkWords, State.taking_channel]
      rw [show (s.channel c).state = .opened from opened, ← monitor]
      rfl
    rw [words]
    rfl
  · have passed : serviceCheck c ((s.taking c rest).channel c).binding none
        ((s.taking c rest).entry i) = none := by
      rw [State.taking_channel, State.taking_entry, held]
      have bound : (s.channel c).binding = some d.issuer := bound
      dsimp only
      rw [bound]
      exact serviceCheck_of_bound (e := .held d suspended current previous) right rfl rfl
    rw [exec_suSelection next head, State.startService_probe rfl, State.startProbe_of_passed passed,
      State.taking_reply, State.taking_entry, held]
    cases suspended <;> cases previous <;> rfl

/-- Settles O28: the checks of Table 3-1 one after the other, for a PROBE and for a DERIVE. -/
theorem selectionRefusesByTheFirstCheck : Obligations.SelectionRefusesByTheFirstCheck := by
  intro s c r rest next head ch refused violating
  have starts (t : State) (begins : (s.taking c rest).startService c r = .next t) :
      exec .suSelection s = .next t := (exec_suSelection next head).trans begins
  have record : (s.taking c rest).channel c = { ch with requests := rest } := State.taking_channel rest
  have other {i status k} (kind : r.body.kind = k) (permitted : status ≠ .notPermitted)
      (fails : exec .suSelection s = .next ((s.taking c rest).failRequest c r i status)) :
      exec .suSelection s = .next (refused k status) := by
    subst kind
    rw [fails, State.failRequest_of_permitted permitted]
    exact congrArg Host.Outcome.next (State.taking_reply rest _)
  have violates {i k} (kind : r.body.kind = k)
      (fails : exec .suSelection s = .next ((s.taking c rest).failRequest c r i .notPermitted)) :
      exec .suSelection s = .next (violating i (refused k .notPermitted)) := by
    subst kind
    rw [fails, State.failRequest_notPermitted, State.taking_reply]
    rfl
  constructor
  · intro i body
    have kind : r.body.kind = 2 := congrArg RequestBody.kind body
    have refuses {status} (checks : serviceCheck c ch.binding none (s.entry i) = some status) :
        exec .suSelection s = .next ((s.taking c rest).failRequest c r i status) :=
      starts _ ((State.startService_probe body).trans
        (congrArg Host.Outcome.next (State.startProbe_of_refused (record ▸ checks))))
    refine ⟨fun none => ?_, fun right d data => ⟨fun wrong => ?_, fun bound keyless => ?_⟩⟩
    · exact violates kind (refuses (serviceCheck_of_no_right none))
    · exact other kind nofun (refuses (serviceCheck_of_wrongIssuer right data (.inl wrong)))
    · have passes := serviceCheck_of_bound (issuer := none) right data rfl
      rw [keyless, ← bound] at passes
      exact other kind nofun (refuses passes)
  · intro b body
    have kind : r.body.kind = 1 := congrArg RequestBody.kind body
    have refuses {status}
        (checks : serviceCheck c ch.binding (some b.issuer) (s.entry b.entry) = some status) :
        exec .suSelection s = .next ((s.taking c rest).failRequest c r b.entry status) :=
      starts _ (State.startService_derive_refused body (record ▸ checks))
    refine ⟨fun none => ?_, fun right d data => ⟨fun wrong => ?_, fun bound own =>
      ⟨fun keyless => ?_, fun current previous held => ?_, fun current previous held => ?_⟩⟩⟩
    · exact violates kind (refuses (serviceCheck_of_no_right none))
    · exact other kind nofun (refuses (serviceCheck_of_wrongIssuer right data wrong))
    · have passes := serviceCheck_of_bound (issuer := some b.issuer) right data own
      rw [keyless, ← bound] at passes
      exact other kind nofun (refuses passes)
    all_goals
      have passes := serviceCheck_of_bound (issuer := some b.issuer) right data own
      have key : (s.entry b.entry).isHeld = true := by rw [held]; rfl
      rw [key, ← bound] at passes
      have short {status} (checks : deriveCheck b (s.entry b.entry) = .inl status) :
          exec .suSelection s = .next ((s.taking c rest).failRequest c r b.entry status) :=
        starts _ (State.startService_derive_short body (record ▸ passes) checks)
    · exact other kind nofun (short (held ▸ rfl))
    · intro selects
      refine ⟨fun unselected => ?_, fun selected shorter => ?_⟩
      · refine other kind nofun (short (held ▸ deriveCheck_of_no_generation ?_))
        refine Option.eq_none_iff_forall_ne_some.mpr fun g found => unselected ?_
        rcases Entry.select_eq_some_iff.mp found with ⟨own, -⟩ | ⟨-, -, standing, number⟩
        · exact own.imp_right .inl
        · exact .inr (.inr ⟨g, standing, number.symm⟩)
      · obtain ⟨g, found⟩ := Entry.select_of_named (d := d) (suspended := false) selected
        refine other kind nofun (short (held ▸ (deriveCheck_of_held found).trans (if_pos shorter)))

/-- Settles O29: a DERIVE whose checks pass, with the charge, the copies and the claim. -/
theorem selectionBindsTheDerive : Obligations.SelectionBindsTheDerive := by
  intro s c tag b rest d current previous g transport next ch head held right bound own selects
    enough key blocks job left
  have passes : serviceCheck c ((s.taking c rest).channel c).binding (some b.issuer)
      ((s.taking c rest).entry b.entry) = none := by
    rw [State.taking_channel, State.taking_entry, held]
    have bound : (s.channel c).binding = some d.issuer := bound
    dsimp only
    rw [bound]
    exact serviceCheck_of_bound (e := .held d false current previous) right rfl own
  have chosen : deriveCheck b ((s.taking c rest).entry b.entry) = .inr g := by
    rw [State.taking_entry, held]
    refine (deriveCheck_of_held (Entry.select_eq_some_iff.mpr ?_)).trans (if_neg (Nat.not_lt.mpr enough))
    exact selects
  have keyed : ((s.taking c rest).channel c).transport = some transport := by
    rw [State.taking_channel]
    exact key
  rw [exec_suSelection next head, State.startService_derive_passed rfl passes chosen keyed]
  refine congrArg Host.Outcome.next ?_
  unfold State.bindDerive
  rw [State.chargeEntry_of_held (s := s.taking c rest) held]
  unfold State.presentClaim
  cases standing : s.cc.current with
  | none =>
    exact (congrArg (State.withCc _) (CipherCore.present_idle job (cc := s.cc) standing)).trans rfl
  | some claim =>
    exact (congrArg (State.withCc _) (CipherCore.present_busy job (cc := s.cc) standing)).trans rfl

end Sys2Proof.Machine

/-! What a completed claim does (R36, R40, R100, R117, R120, R121): DERIVE, RESPOND, ENTER_COMPONENT and
COMMIT. -/

namespace Sys2Proof.Machine

/-! ## The completion of a claim -/

section Completion

variable {s : State} {claim : Claim}

/-- A waiting claim is granted, if the core is free (R35). -/
def State.arbitrated (s : State) : State :=
  s.withCc (s.cc.arbitrate s.su.inService)

theorem exec_ccClaimComplete (current : s.cc.current = some claim) :
    exec .ccClaimComplete s =
      .next ((s.withCc s.cc.release).deliverResults claim.job).arbitrated := by
  simp only [exec, execCcClaimComplete, current]
  rfl

/-- What completes at the port does not look at the Cipher Core. -/
theorem State.finish_withCc (cc : CipherCore) (status : ConsoleStatus) (body : List Byte) :
    (s.withCc cc).finish status body = (s.finish status body).withCc cc := by
  cases pending : s.ci.expiryPending with
  | false => rw [State.finish_plain _ _ s pending, State.finish_plain _ _ (s.withCc cc) pending]; rfl
  | true =>
    rw [State.finish_expiring _ _ s pending, State.finish_expiring _ _ (s.withCc cc) pending,
      State.expireWindow_eq, State.expireWindow_eq]
    rfl

/-- A claim whose results complete the command in progress: the arbiter then grants. -/
theorem exec_ccClaimComplete_of_finish {status : ConsoleStatus} {body : List Byte} {t : State}
    (current : s.cc.current = some claim) (su : t.su = s.su)
    (delivers : (s.withCc s.cc.release).deliverResults claim.job =
      (t.withCc s.cc.release).finish status body) :
    exec .ccClaimComplete s =
      .next ((t.withCc (s.cc.release.arbitrate s.su.inService)).finish status body) := by
  rw [exec_ccClaimComplete current, delivers, State.arbitrated, State.finish_withCc,
    State.finish_withCc, ← su]
  simp only [State.withCc_cc, State.withCc_su, State.finish_su]
  rfl

end Completion

/-! ## DERIVE (R38, R39, R40, R64) -/

/-- The five words of each card key, from the results at their places (R39). -/
theorem deriveWords_eq (body : DeriveBody) (master transport : Key) (d : Nat → Block) :
    deriveWords body (Job.derive master transport ((List.range body.count).map d)).results =
      (List.range body.count).flatMap fun i =>
        blockWords (encrypt256 transport (encrypt256 master (d i))) ++
          [firstThree (encrypt128 (encrypt256 master (d i)) 0) ++
            (body.sequence + BitVec.ofNat 16 i).extractLsb' 0 8] := by
  unfold deriveWords
  refine List.flatMap_congr fun i member => ?_
  have within : i < body.count := List.mem_range.mp member
  obtain ⟨wrapped, check⟩ :=
    Job.results_derive_getElem? master transport ((List.range body.count).map d) i
  simp only [resultBlock, resultCheck, wrapped, check, List.getElem?_map, List.getElem?_range within,
    Option.map_some]
  rfl

theorem deriveWords_length (body : DeriveBody) (results : List Result) :
    (deriveWords body results).length = 5 * body.count := by
  simp [deriveWords, blockWords, List.length_flatMap, Nat.mul_comm]

section Derive

variable {s : State} {results : List Result} {r : InService}

theorem State.completeDerive_of_discard (serving : s.su.inService = some r) (discard : r.discard = true) :
    s.completeDerive results = (s.withSu { s.su with inService := none }).mapChannel r.channel
      fun ch => { ch with admitted := ch.admitted - 1 } := by
  simp only [State.completeDerive, serving, discard, if_true]

theorem State.completeDerive_of_kept (serving : s.su.inService = some r) (kept : r.discard = false) :
    s.completeDerive results = (s.withSu { s.su with inService := none }).mapChannel r.channel
      (Channel.credit
        { kind := kindDerive, tag := r.tag, status := .ok, body := deriveWords r.body results }
        r.body.count) := by
  simp only [State.completeDerive, serving, kept, Bool.false_eq_true, if_false]

end Derive

/-- Settles O30: with the discard mark and without it, and the length of the reply. -/
theorem deriveClaimIsDelivered : Obligations.DeriveClaimIsDelivered := by
  intro s claim r current serving d job k w words ch ended
  have spelled : deriveWords r.body claim.job.results = words := by
    rw [job]
    exact deriveWords_eq r.body _ _ d
  have runs : exec .ccClaimComplete s =
      .next ((s.withCc s.cc.release).completeDerive claim.job.results).arbitrated := by
    rw [exec_ccClaimComplete current, job]
    rfl
  refine ⟨fun discard => ?_, fun kept => ?_, ?_⟩
  · rw [runs, State.completeDerive_of_discard (s := s.withCc s.cc.release) serving discard]
    rfl
  · rw [runs, State.completeDerive_of_kept (s := s.withCc s.cc.release) serving kept, spelled]
    rfl
  · rw [← spelled]
    exact deriveWords_length r.body _

/-! ## RESPOND (R100) -/

section Respond

variable {s : State} {n : Byte} {response result : Block} {c : CustodianNo}

theorem State.completeRespond_of_port (port : s.ci.port = .executing (.respond n response))
    (number : n.toNat = c.val + 1) :
    s.completeRespond result = if result = response then s.respondMatches c else s.respondFails c := by
  simp only [State.completeRespond, port, custodianNo?_eq_some number]

/-- The state with a failure counted on a custodian's record, which the third locks (R100). -/
def State.failing (c : CustodianNo) (s : State) : State :=
  let r := s.custodian c
  let locks := decide (Config.failuresToLock ≤ r.failures + 1)
  (s.setCustodian c { r with failures := r.failures + 1,
                             state := if locks then .locked else r.state }).raiseIf
    locks .custodianLocked

theorem State.respondFails_eq : s.respondFails c = (s.failing c).finish .checkMismatch [] := rfl

@[simp] theorem State.failing_su (c : CustodianNo) (s : State) : (s.failing c).su = s.su := by
  simp [State.failing, State.setCustodian]

theorem State.failing_withCc (cc : CipherCore) :
    (s.withCc cc).failing c = (s.failing c).withCc cc := by
  have custodian : (s.withCc cc).custodian c = s.custodian c := rfl
  simp only [State.failing, State.raiseIf, custodian]
  split <;> rfl

theorem State.failing_of_few (few : (s.custodian c).failures + 1 < 3) :
    s.failing c =
      s.setCustodian c { s.custodian c with failures := (s.custodian c).failures + 1 } := by
  have unlocked : decide (Config.failuresToLock ≤ (s.custodian c).failures + 1) = false :=
    decide_eq_false (Nat.not_le.mpr few)
  simp only [State.failing, unlocked]
  rfl

theorem State.failing_of_third (third : ¬(s.custodian c).failures + 1 < 3) :
    s.failing c =
      { s.setCustodian c { s.custodian c with
          failures := (s.custodian c).failures + 1, state := .locked } with
        ci.flags := s.ci.flags ||| 0x200 } := by
  have locks : decide (Config.failuresToLock ≤ (s.custodian c).failures + 1) = true :=
    decide_eq_true (Nat.not_lt.mp third)
  simp only [State.failing, locks]
  rfl

/-- A custodian who joins stands at the list's tail; the first starts the window (R101, R102). -/
theorem State.joinPresence_eq : s.joinPresence c = { s with
    ci.presence := s.ci.presence ++ [c]
    ci.window := if s.ci.presence = [] then
                   { remaining := s.ci.window.length, running := true, length := s.ci.window.length }
                 else s.ci.window } := by
  cases presence : s.ci.presence <;> simp only [State.joinPresence, presence] <;> rfl

end Respond

/-- Settles O31: the encrypted challenge matches or not, and the third failure locks. -/
theorem respondClaimDecides : Obligations.RespondClaimDecides := by
  intro s claim n response c key challenge current job port number r
  let core : CipherCore := s.cc.release.arbitrate s.su.inService
  have delivers : (s.withCc s.cc.release).deliverResults claim.job =
      if encrypt256 key challenge = response then (s.withCc s.cc.release).respondMatches c
      else (s.withCc s.cc.release).respondFails c := by
    rw [job]
    exact State.completeRespond_of_port (s := s.withCc s.cc.release) port number
  constructor
  · intro matched
    rw [if_pos matched] at delivers
    refine (exec_ccClaimComplete_of_finish
      (t := (s.setCustodian c { r with failures := 0 }).joinPresence c) current rfl delivers).trans ?_
    refine congrArg (fun t => Host.Outcome.next (State.finish .done [] t)) ?_
    rw [State.joinPresence_eq]
    rfl
  · intro differs
    rw [if_neg differs] at delivers
    refine (exec_ccClaimComplete_of_finish (t := s.failing c) current (State.failing_su ..)
      (delivers.trans (by rw [State.respondFails_eq, State.failing_withCc]))).trans ?_
    refine congrArg (fun t => Host.Outcome.next (State.finish .checkMismatch [] t)) ?_
    by_cases few : r.failures + 1 < 3
    · rw [if_pos few, State.failing_of_few few]
      rfl
    · rw [if_neg few, State.failing_of_third few]
      rfl

/-! ## ENTER_COMPONENT (R117) -/

section Component

variable {s : State} {n : Byte} {block1 block2 : Block} {claimed check : CheckValue} {component : Key}
  {c : CustodianNo} {x : Ceremony}

theorem State.completeComponent_of_differs
    (port : s.ci.port = .executing (.enterComponent n block1 block2 claimed))
    (differs : check ≠ claimed) :
    s.completeComponent component check = s.finish .checkMismatch [] := by
  simp only [State.completeComponent, port, if_pos differs]
  rfl

theorem State.completeComponent_of_matches
    (port : s.ci.port = .executing (.enterComponent n block1 block2 claimed))
    (equal : check = claimed) (number : n.toNat = c.val + 1) (open_ : s.cec = some x) :
    s.completeComponent component check =
      (s.withCec (some (x.combine c component))).finish .done [] := by
  simp only [State.completeComponent, port, if_neg (not_not.mpr equal), custodianNo?_eq_some number,
    open_]

end Component

/-- Settles O32: the check value differs or not. -/
theorem componentClaimDecides : Obligations.ComponentClaimDecides := by
  intro s claim n block1 block2 claimed c key x current job port number collecting component check
  have delivers : (s.withCc s.cc.release).deliverResults claim.job =
      (s.withCc s.cc.release).completeComponent component check := by
    rw [job]
    rfl
  constructor
  · intro differs
    rw [State.completeComponent_of_differs (s := s.withCc s.cc.release) port differs] at delivers
    exact exec_ccClaimComplete_of_finish (t := s) current rfl delivers
  · intro equal
    rw [State.completeComponent_of_matches (s := s.withCc s.cc.release) port equal number collecting]
      at delivers
    refine (exec_ccClaimComplete_of_finish (t := s.withCec (some (x.combine c component))) current rfl
      delivers).trans ?_
    simp only [Ceremony.combine, List.length_append, List.length_singleton]
    rfl

/-! ## COMMIT (Table 7-3, R7, R8, R54, R120, R121) -/

section Commit

variable {s : State} {expected check : CheckValue} {x : Ceremony}

theorem State.repeatsCurrent_iff {target : CeremonyTarget} :
    s.repeatsCurrent target check = true ↔ ∃ i issuer d suspended current previous,
      target = .rollover i issuer ∧ s.entry i = .held d suspended current previous ∧
        current.check = check := by
  cases target with
  | newKey i issuer label rights => simp [State.repeatsCurrent]
  | transport c => simp [State.repeatsCurrent]
  | rollover i issuer =>
    cases entry : s.entry i with
    | held d suspended current previous =>
      have compares : s.repeatsCurrent (.rollover i issuer) check = (current.check == check) := by
        simp only [State.repeatsCurrent, Entry.current?, entry]
      rw [compares, beq_iff_eq]
      constructor
      · exact fun equal => ⟨i, issuer, d, suspended, current, previous, rfl, entry, equal⟩
      · rintro ⟨_, _, _, _, _, _, ⟨⟩, held, equal⟩
        cases entry.symm.trans held
        exact equal
    | empty => simp [State.repeatsCurrent, Entry.current?, entry]
    | faulted => simp [State.repeatsCurrent, Entry.current?, entry]

theorem State.commitFailure_of_value
    (bad : x.combined = 0 ∨ s.repeatsCurrent x.target check = true) :
    s.commitFailure x check expected = some .badValue := by
  rcases bad with zero | repeated
  · simp only [State.commitFailure, if_pos zero]
  · simp only [State.commitFailure, if_pos repeated, ite_self]

/-- The checks of Table 7-3 from the third on. -/
theorem State.commitFailure_of_good (nonzero : x.combined ≠ 0)
    (fresh : s.repeatsCurrent x.target check = false) :
    s.commitFailure x check expected =
      if check ≠ expected then some .checkMismatch
      else if s.tm.state ≠ .armed then some .notArmed
      else if s.suitable x.target x.generation then none
      else some .state := by
  simp only [State.commitFailure, if_neg nonzero, fresh, Bool.false_eq_true, if_false]

theorem State.completeCommit_of_failure {status : ConsoleStatus}
    (port : s.ci.port = .executing (.commit expected)) (standing : s.cec = some x)
    (fails : s.commitFailure x check expected = some status) :
    s.completeCommit check = (s.withCec none).finish status [] := by
  simp only [State.completeCommit, port, standing, fails]
  rfl

theorem State.completeCommit_of_passed
    (port : s.ci.port = .executing (.commit expected)) (standing : s.cec = some x)
    (passes : s.commitFailure x check expected = none) :
    s.completeCommit check =
      ((s.install x.target { number := x.generation, value := x.combined, check := check }).withCec
        none).finish .done [] := by
  simp only [State.completeCommit, port, standing, passes]

theorem State.install_withCc (cc : CipherCore) (target : CeremonyTarget) (g : Generation) :
    (s.withCc cc).install target g = (s.install target g).withCc cc := by
  have entry (i : EntryIndex) : (s.withCc cc).entry i = s.entry i := rfl
  have channel (c : ChannelNo) : (s.withCc cc).channel c = s.channel c := rfl
  have seconds : (s.withCc cc).pwr = s.pwr := rfl
  cases target <;> simp only [State.install, entry, channel, seconds] <;> split <;> rfl

theorem Entry.installNewKey_of_keyless {e : Entry} {issuer : IssuerTag} {label : List Byte}
    {rights : Byte} {g : Generation} {now : Seconds} (keyless : e.isHeld = false) :
    e.installNewKey issuer label rights g now =
      some (.held { label := label, issuer := issuer, rights := rights, allowance := 0, used := 0,
                    committedAt := now } false g none) := by
  cases e with
  | held => nomatch keyless
  | empty | faulted => rfl

theorem Entry.installRollover_of_later {issuer : IssuerTag} {g : Generation} {now : Seconds}
    {d : EntryMeta} {suspended : Bool} {current : Generation} {previous : Option Generation}
    (own : d.issuer = issuer) (later : current.number < g.number) :
    (Entry.held d suspended current previous).installRollover issuer g now =
      some (.held { d with committedAt := now } suspended g (some current)) :=
  if_pos ⟨own, later⟩

theorem Channel.installTransport_of_accepts {ch : Channel} {g : Generation}
    (accepts : ch.acceptsTransport g.number = true) :
    ch.installTransport g = some { ch with transport := some g } :=
  if_pos accepts

theorem State.suitable_rollover_of_keyless {i : EntryIndex} {issuer : IssuerTag} {n : Byte}
    (keyless : (s.entry i).isHeld = false) : s.suitable (.rollover i issuer) n = false := by
  cases entry : s.entry i with
  | held => nomatch (congrArg Entry.isHeld entry).symm.trans keyless
  | empty | faulted => simp only [State.suitable, entry]

theorem State.suitable_rollover_iff {i : EntryIndex} {issuer : IssuerTag} {n : Byte} {d : EntryMeta}
    {suspended : Bool} {current : Generation} {previous : Option Generation}
    (held : s.entry i = .held d suspended current previous) :
    s.suitable (.rollover i issuer) n = true ↔ d.issuer = issuer ∧ current.number < n := by
  simp [State.suitable, held]

theorem Channel.acceptsTransport_iff {ch : Channel} {n : Byte} :
    ch.acceptsTransport n = true ↔ ∀ g, ch.transport = some g → g.number < n := by
  cases transport : ch.transport <;> simp [Channel.acceptsTransport, transport]

end Commit

/-- Settles O33: the checks of Table 7-3 one after the other, the last by the kind of the target. -/
theorem commitClaimDecides : Obligations.CommitClaimDecides := by
  intro s claim expected x current job port standing check ended refused repeated key
  have delivers : (s.withCc s.cc.release).deliverResults claim.job =
      (s.withCc s.cc.release).completeCommit check := by
    rw [job]
    rfl
  have fails {status} (failure : s.commitFailure x check expected = some status) : refused status := by
    rw [State.completeCommit_of_failure (s := s.withCc s.cc.release) port standing failure] at delivers
    exact exec_ccClaimComplete_of_finish (t := s.withCec none) current rfl delivers
  refine ⟨fun bad => fails ?_, fun nonzero unrepeated => ?_⟩
  · exact State.commitFailure_of_value (bad.imp_right State.repeatsCurrent_iff.mpr)
  have good := State.commitFailure_of_good (expected := expected) nonzero
    (Bool.eq_false_iff.mpr fun found => unrepeated (State.repeatsCurrent_iff.mp found))
  refine ⟨fun differs => ?_, fun equal unarmed => ?_, fun equal armed => ?_⟩
  · exact fails (good.trans (if_pos differs))
  · exact fails (good.trans ((if_neg (not_not.mpr equal)).trans (if_pos unarmed)))
  rw [if_neg (not_not.mpr equal), if_neg (not_not.mpr armed)] at good
  have unsuitable (unfit : s.suitable x.target x.generation = false) : refused .state :=
    fails (good.trans (if_neg (Bool.eq_false_iff.mp unfit)))
  have installs (fit : s.suitable x.target x.generation = true) : exec .ccClaimComplete s =
      .next (State.finish .done [] (((s.install x.target key).withCec none).withCc
        (s.cc.release.arbitrate s.su.inService))) := by
    have passes := good.trans (if_pos fit)
    rw [State.completeCommit_of_passed (s := s.withCc s.cc.release) port standing passes,
      State.install_withCc] at delivers
    exact exec_ccClaimComplete_of_finish (t := (s.install x.target key).withCec none) current
      (State.install_su x.target key s) delivers
  cases target : x.target with
  | newKey i issuer label rights =>
    rw [target] at unsuitable installs
    refine ⟨fun held => unsuitable (congrArg not held), fun keyless => ?_⟩
    rw [installs (congrArg not keyless), State.install, Entry.installNewKey_of_keyless keyless]
    rfl
  | rollover i issuer =>
    rw [target] at unsuitable installs
    refine ⟨fun keyless => ?_, fun d suspended current previous held => ⟨fun unfit => ?_,
      fun own later => ?_⟩⟩
    · exact unsuitable (State.suitable_rollover_of_keyless keyless)
    · refine unsuitable (Bool.eq_false_iff.mpr fun fits => unfit ?_)
      exact (State.suitable_rollover_iff held).mp fits
    · rw [installs ((State.suitable_rollover_iff held).mpr ⟨own, later⟩), State.install, held,
        Entry.installRollover_of_later (g := key) own later]
      rfl
  | transport c =>
    rw [target] at unsuitable installs
    refine ⟨fun ⟨g, standing, late⟩ => ?_, fun earlier => ?_⟩
    · refine unsuitable (Bool.eq_false_iff.mpr fun fits => ?_)
      exact Nat.not_lt.mpr late ((Channel.acceptsTransport_iff.mp fits) g standing)
    · have fits : (s.channel c).acceptsTransport x.generation = true :=
        Channel.acceptsTransport_iff.mpr earlier
      rw [installs fits, State.install, Channel.installTransport_of_accepts (g := key) fits]
      rfl

end Sys2Proof.Machine
/-! The self-check of a restart (R12, R54, R187, R188): which stored key it visits, and what a completed
claim does with the item it checked. -/

namespace Sys2Proof.Machine

/-! ## The first stored key from a place on (R188) -/

section Visits

variable {s : State} {start : Nat}

/-- The claim of the item at a place of the visits, if it has one to make. -/
def State.checkAt (n : Nat) (s : State) : Option (CheckPosition × Job) :=
  (checkItem n).bind fun p => (s.checkJob p).map fun job => (p, job)

theorem State.checkAt_entry (i : EntryIndex) :
    s.checkAt i.val = (s.checkJob (.entry i)).map fun job => (.entry i, job) := by
  simp [State.checkAt, checkItem]

theorem State.checkAt_channel (c : ChannelNo) :
    s.checkAt (96 + c.val) = (s.checkJob (.channel c)).map fun job => (.channel c, job) := by
  simp [State.checkAt, checkItem]

theorem State.checkJob_of_keyless {i : EntryIndex} (keyless : (s.entry i).isHeld = false) :
    s.checkJob (.entry i) = none := by
  cases entry : s.entry i with
  | held => nomatch (congrArg Entry.isHeld entry).symm.trans keyless
  | empty | faulted => simp only [State.checkJob, entry]

theorem State.checkJob_of_held {i : EntryIndex} {d : EntryMeta} {suspended : Bool}
    {current : Generation} {previous : Option Generation}
    (held : s.entry i = .held d suspended current previous) :
    s.checkJob (.entry i) = some (.checkEntry current.value (previous.map (·.value))) := by
  simp only [State.checkJob, held]

/-- A place of the visits is an entry or, after the last, a channel. -/
theorem place_cases {n : Nat} (below : n < 104) :
    (∃ i : EntryIndex, n = i.val) ∨ ∃ c : ChannelNo, n = 96 + c.val := by
  by_cases entry : n < 96
  · exact .inl ⟨⟨n, entry⟩, rfl⟩
  · exact .inr ⟨⟨n - 96, by omega⟩, by simp only; omega⟩

/-- Where nothing is stored from one place up to another, no item between makes a claim. -/
theorem State.checkAt_eq_none {stop : Nat} (within : stop ≤ 104)
    (entries : ∀ i : EntryIndex, start ≤ i.val → i.val < stop → (s.entry i).isHeld = false)
    (channels : ∀ c : ChannelNo, start ≤ 96 + c.val → 96 + c.val < stop →
      (s.channel c).transport = none) :
    ∀ n, start ≤ n → n < stop → s.checkAt n = none := by
  intro n late early
  rcases place_cases (Nat.lt_of_lt_of_le early within) with ⟨i, rfl⟩ | ⟨c, rfl⟩
  · rw [State.checkAt_entry, State.checkJob_of_keyless (entries i late early)]
    rfl
  · rw [State.checkAt_channel, State.checkJob, channels c late early]
    rfl

theorem State.nextCheck_of_first {n : Nat} {x : CheckPosition × Job} (late : start ≤ n)
    (within : n < 104) (here : s.checkAt n = some x)
    (before : ∀ m, start ≤ m → m < n → s.checkAt m = none) : s.nextCheck start = some x := by
  refine List.findSome?_eq_some_iff.mpr ⟨List.range' start (n - start), n,
    List.range' (n + 1) (104 - (n + 1)), ?_, here, fun m member => ?_⟩
  · rw [← List.range'_succ, show 104 - (n + 1) + 1 = 104 - n by omega]
    have splits := (List.range'_append_1 (s := start) (m := n - start) (n := 104 - n)).symm
    rw [show start + (n - start) = n by omega, show n - start + (104 - n) = 104 - start by omega]
      at splits
    exact splits
  · obtain ⟨from_, below⟩ := List.mem_range'_1.mp member
    exact before m from_ (by omega)

theorem State.nextCheck_of_none (nothing : ∀ n, start ≤ n → n < 104 → s.checkAt n = none) :
    s.nextCheck start = none := by
  refine List.findSome?_eq_none_iff.mpr fun n member => ?_
  obtain ⟨from_, below⟩ := List.mem_range'_1.mp member
  exact nothing n from_ (by omega)

variable {cold : Bool}

theorem State.selfCheckFrom_of_none
    (entries : ∀ i : EntryIndex, start ≤ i.val → (s.entry i).isHeld = false)
    (channels : ∀ c : ChannelNo, start ≤ 96 + c.val → (s.channel c).transport = none) :
    s.selfCheckFrom start cold = s.finishRestart cold := by
  have next : s.nextCheck start = none := State.nextCheck_of_none
    (State.checkAt_eq_none (Nat.le_refl 104) (fun i late _ => entries i late)
      fun c late _ => channels c late)
  simp only [State.selfCheckFrom, next]

theorem State.selfCheckFrom_of_entry {i : EntryIndex} {d : EntryMeta} {suspended : Bool}
    {current : Generation} {previous : Option Generation} (late : start ≤ i.val)
    (held : s.entry i = .held d suspended current previous)
    (before : ∀ j : EntryIndex, start ≤ j.val → j < i → (s.entry j).isHeld = false) :
    s.selfCheckFrom start cold =
      s.visit (.entry i) cold (.checkEntry current.value (previous.map (·.value))) := by
  have within := i.isLt
  have here : s.checkAt i.val =
      some (.entry i, .checkEntry current.value (previous.map (·.value))) := by
    rw [State.checkAt_entry, State.checkJob_of_held held]
    rfl
  have next := State.nextCheck_of_first late (by omega) here
    (State.checkAt_eq_none (by omega) before fun c _ early => by omega)
  simp only [State.selfCheckFrom, next]
  rfl

theorem State.selfCheckFrom_of_channel {c : ChannelNo} {g : Generation}
    (entries : ∀ i : EntryIndex, start ≤ i.val → (s.entry i).isHeld = false)
    (late : start ≤ 96 + c.val) (stored : (s.channel c).transport = some g)
    (before : ∀ d : ChannelNo, start ≤ 96 + d.val → d < c → (s.channel d).transport = none) :
    s.selfCheckFrom start cold = s.visit (.channel c) cold (.checkTransport g.value) := by
  have within := c.isLt
  have here : s.checkAt (96 + c.val) = some (.channel c, .checkTransport g.value) := by
    rw [State.checkAt_channel, State.checkJob, stored]
    rfl
  have next := State.nextCheck_of_first late (by omega) here
    (State.checkAt_eq_none (by omega) (fun i from_ _ => entries i from_)
      fun d from_ early => before d from_ (Nat.lt_of_add_lt_add_left early))
  simp only [State.selfCheckFrom, next]
  rfl

end Visits

/-! ## The flags that a step of the self-check sets -/

theorem State.raiseIf_getLsbD {b : Bool} {e : Event} {s : State} {n : Nat} (h : n < 11) :
    (s.raiseIf b e).ci.flags.getLsbD n = (s.ci.flags.getLsbD n || (b && decide (n = e.bit))) := by
  cases b with
  | false => simp [State.raiseIf]
  | true => simpa [State.raiseIf, State.raiseEvent] using setFlag_getLsbD e s.ci.flags n h

theorem State.selfCheckFrom_getLsbD_five {s : State} {start : Nat} {cold : Bool} :
    (s.selfCheckFrom start cold).ci.flags.getLsbD 5 = s.ci.flags.getLsbD 5 := by
  rcases State.selfCheckFrom_cases start cold s with ⟨p, job, -, -, moves⟩ | ⟨-, moves⟩
  · rw [moves]
    rfl
  · rw [moves]
    refine (State.raiseIf_getLsbD (by decide)).trans ?_
    simp [Event.bit]

/-! ## The next visit, or the end of the restart (R187, R188) -/

/-- The state claims an item for the self-check, from a core that its claim has left. -/
def State.Visits (s : State) (cold : Bool) (q : CheckPosition) (job : Job) (t : State) : Prop :=
  t.pwr = { s.pwr with supply := .restarting (.checking q) cold } ∧ t.ci.port = s.ci.port ∧
    t.lhi = s.lhi ∧
    t.cc = { keyBuffer := job.keys, current := some { job := job, done := 0 }
             waiting := s.cc.waiting }

/-- The state goes on from a place of the visits: to the first stored key after it, or to the end. -/
def State.GoesOnFrom (s : State) (place : Nat) (cold : Bool) (t : State) : Prop :=
  let entriesDone : Prop := ∀ i : EntryIndex, place < i.val → (s.entry i).isHeld = false
  (entriesDone → (∀ c : ChannelNo, place < 96 + c.val → (s.channel c).transport = none) →
    t.pwr = { s.pwr with supply := .normal } ∧ t.ci.port = .ready none ∧
      t.lhi.highway = .enabling 0 ∧
      t.cc = s.cc.release.arbitrate s.su.inService ∧
      t.ci.flags.getLsbD 10 = (if cold then s.ci.flags.getLsbD 10 else true)) ∧
  (∀ (i : EntryIndex) d suspended current previous, place < i.val →
    s.entry i = .held d suspended current previous →
    (∀ j : EntryIndex, place < j.val → j < i → (s.entry j).isHeld = false) →
    s.Visits cold (.entry i) (.checkEntry current.value (previous.map (·.value))) t) ∧
  ∀ (c : ChannelNo) g, entriesDone → place < 96 + c.val → (s.channel c).transport = some g →
    (∀ d : ChannelNo, place < 96 + d.val → d < c → (s.channel d).transport = none) →
    s.Visits cold (.channel c) (.checkTransport g.value) t

/-- What stands of a state after the outcome for the item at a place is applied. -/
structure State.Checked (s : State) (place : Nat) (u : State) : Prop where
  core : u.cc = s.cc.release
  service : u.su = s.su
  power : u.pwr = s.pwr
  port : u.ci.port = s.ci.port
  highway : u.lhi = s.lhi
  restarted : u.ci.flags.getLsbD 10 = s.ci.flags.getLsbD 10
  entries : ∀ i : EntryIndex, place < i.val → u.entry i = s.entry i
  channels : ∀ c : ChannelNo, place < 96 + c.val → u.channel c = s.channel c

section GoesOn

variable {s u : State} {place : Nat} {cold : Bool}

/-- The claim of the next item is presented to a free core, where it stands. -/
theorem State.Checked.visits (h : s.Checked place u) (q : CheckPosition) (job : Job) :
    s.Visits cold q job (u.visit q cold job).arbitrated := by
  have idle : u.cc.current = none := by rw [h.core]; rfl
  have core : (u.visit q cold job).cc = .grant job s.cc.waiting := by
    change u.cc.present job = _
    rw [CipherCore.present_idle job idle, h.core]
    rfl
  refine ⟨?_, h.port, h.highway, ?_⟩
  · exact congrArg (fun p : PowerController => { p with supply := .restarting (.checking q) cold })
      h.power
  · change (u.visit q cold job).cc.arbitrate _ = _
    rw [core]
    rfl

theorem State.Checked.goesOn (h : s.Checked place u) :
    s.GoesOnFrom place cold (u.selfCheckFrom (place + 1) cold).arbitrated := by
  refine ⟨fun entries channels => ?_, fun i d suspended current previous late held before => ?_,
    fun c g entries late stored before => ?_⟩
  · rw [State.selfCheckFrom_of_none (fun i late => (h.entries i late).symm ▸ entries i late)
      fun c late => (h.channels c late).symm ▸ channels c late]
    refine ⟨?_, rfl, rfl, ?_, ?_⟩
    · change { (u.raiseIf _ _).pwr with supply := .normal } = _
      rw [State.raiseIf_pwr, h.power]
    · change (u.raiseIf _ _).cc.arbitrate (u.raiseIf _ _).su.inService = _
      rw [State.raiseIf_cc, State.raiseIf_su, h.core, h.service]
    · refine (State.raiseIf_getLsbD (by decide)).trans ?_
      rw [h.restarted]
      cases cold <;> simp [Event.bit]
  · rw [State.selfCheckFrom_of_entry late ((h.entries i late).trans held)
      fun j after early => (h.entries j after).symm ▸ before j after early]
    exact h.visits _ _
  · rw [State.selfCheckFrom_of_channel (fun i after => (h.entries i after).symm ▸ entries i after) late
      ((h.channels c late).symm ▸ stored) fun d after early =>
        (h.channels d after).symm ▸ before d after early]
    exact h.visits _ _

end GoesOn

/-! ## The outcome for the item (R12, R54, R188) -/

section Outcome

variable {s : State} {d : EntryMeta} {suspended : Bool} {current : Generation}
  {previous : Option Generation} {check check' : CheckValue}

theorem Entry.selfCheck_of_differs (differs : check ≠ current.check) :
    (Entry.held d suspended current previous).selfCheck check check' =
      (.faulted d current.number current.check, true) :=
  if_pos differs

theorem Entry.selfCheck_of_matches (matched : check = current.check)
    (previousMatched : ∀ g, previous = some g → check' = g.check) :
    (Entry.held d suspended current previous).selfCheck check check' =
      (.held d suspended current previous, false) := by
  refine (if_neg (not_not.mpr matched)).trans ?_
  cases previous with
  | none => rfl
  | some g => exact if_neg (not_not.mpr (previousMatched g rfl))

theorem Entry.selfCheck_of_previous_differs {g : Generation} (matched : check = current.check)
    (differs : check' ≠ g.check) :
    (Entry.held d suspended current (some g)).selfCheck check check' =
      (.held d suspended current none, true) :=
  (if_neg (not_not.mpr matched)).trans (if_pos differs)

theorem Channel.selfCheck_of_matches {ch : Channel} {g : Generation}
    (stored : ch.transport = some g) (matched : check = g.check) : ch.selfCheck check = (ch, false) := by
  simp only [Channel.selfCheck, stored, if_neg (not_not.mpr matched)]

theorem Channel.selfCheck_of_differs {ch : Channel} {g : Generation}
    (stored : ch.transport = some g) (differs : check ≠ g.check) :
    ch.selfCheck check = ({ ch with transport := none, state := .closed }, true) := by
  simp only [Channel.selfCheck, stored, if_pos differs]

/-- The state with the outcome for an entry applied. -/
def State.entryChecked (i : EntryIndex) (r : Entry × Bool) (s : State) : State :=
  ((s.withCc s.cc.release).setEntry i r.1).raiseIf r.2 .entryFault

/-- The state with the outcome for a transport key applied. -/
def State.channelChecked (c : ChannelNo) (r : Channel × Bool) (s : State) : State :=
  ((s.withCc s.cc.release).setChannel c r.1).raiseIf r.2 .entryFault

theorem State.applyCheck_entry {i : EntryIndex} {results : List Result} :
    (s.withCc s.cc.release).applyCheck (.entry i) results =
      s.entryChecked i ((s.entry i).selfCheck (resultCheck results 0) (resultCheck results 1)) := rfl

theorem State.applyCheck_channel {c : ChannelNo} {results : List Result} :
    (s.withCc s.cc.release).applyCheck (.channel c) results =
      s.channelChecked c ((s.channel c).selfCheck (resultCheck results 0)) := rfl

theorem State.checked_entry (i : EntryIndex) (r : Entry × Bool) :
    s.Checked i.val (s.entryChecked i r) where
  core := State.raiseIf_cc ..
  service := State.raiseIf_su ..
  power := State.raiseIf_pwr ..
  port := State.raiseIf_port ..
  highway := State.raiseIf_lhi ..
  restarted := by
    refine (State.raiseIf_getLsbD (by decide)).trans ?_
    simp [Event.bit]
  entries j later := by
    have other : i ≠ j := fun same => Nat.lt_irrefl _ (same ▸ later)
    refine Eq.trans ?_ (State.entry_setEntry_other other r.1 (s.withCc s.cc.release))
    simp [State.entryChecked, State.entry]
  channels c _ := by
    simp [State.entryChecked, State.channel]

theorem State.checked_channel (c : ChannelNo) (r : Channel × Bool) :
    s.Checked (96 + c.val) (s.channelChecked c r) where
  core := State.raiseIf_cc ..
  service := State.raiseIf_su ..
  power := State.raiseIf_pwr ..
  port := State.raiseIf_port ..
  highway := State.raiseIf_lhi ..
  restarted := by
    refine (State.raiseIf_getLsbD (by decide)).trans ?_
    simp [Event.bit]
  entries i later := by
    have within := i.isLt
    omega
  channels d later := by
    have other : c ≠ d := fun same => Nat.lt_irrefl _ (same ▸ later)
    refine Eq.trans ?_ (State.channel_setChannel_other other r.1 (s.withCc s.cc.release))
    simp [State.channelChecked, State.channel]

theorem exec_ccClaimComplete_of_checking {claim : Claim} {p : CheckPosition} {cold : Bool}
    (current : s.cc.current = some claim) (supply : s.pwr.supply = .restarting (.checking p) cold)
    (checks : claim.job.claimant = .pwr) :
    exec .ccClaimComplete s = .next
      ((((s.withCc s.cc.release).applyCheck p claim.job.results).selfCheckFrom (p.place + 1)
        cold).arbitrated) := by
  have supply' : (s.withCc s.cc.release).pwr.supply = .restarting (.checking p) cold := supply
  rw [exec_ccClaimComplete current]
  cases job : claim.job with
  | checkEntry | checkTransport =>
    simp only [State.deliverResults, State.completeCheck, supply']
  | derive | respond | component | commit => exact nomatch (congrArg Job.claimant job).symm.trans checks

/-! ### The item and its flag after the self-check has gone on -/

theorem State.goneOn_kt (u : State) (place : Nat) (cold : Bool) :
    ((u.selfCheckFrom (place + 1) cold).arbitrated).kt = u.kt :=
  State.selfCheckFrom_kt ..

theorem State.goneOn_channels (u : State) (place : Nat) (cold : Bool) :
    ((u.selfCheckFrom (place + 1) cold).arbitrated).channels = u.channels :=
  State.selfCheckFrom_channels ..

theorem State.entryChecked_flag (s : State) (i : EntryIndex) (r : Entry × Bool) (n : Nat) (cold : Bool) :
    (((s.entryChecked i r).selfCheckFrom n cold).arbitrated).ci.flags.getLsbD 5 =
      (s.ci.flags.getLsbD 5 || r.2) := by
  refine State.selfCheckFrom_getLsbD_five.trans ((State.raiseIf_getLsbD (by decide)).trans ?_)
  simp [Event.bit]

theorem State.channelChecked_flag (s : State) (c : ChannelNo) (r : Channel × Bool) (n : Nat)
    (cold : Bool) :
    (((s.channelChecked c r).selfCheckFrom n cold).arbitrated).ci.flags.getLsbD 5 =
      (s.ci.flags.getLsbD 5 || r.2) := by
  refine State.selfCheckFrom_getLsbD_five.trans ((State.raiseIf_getLsbD (by decide)).trans ?_)
  simp [Event.bit]

end Outcome

/-- Settles O34: the outcome for the item, then the next visit or the end. -/
theorem selfCheckClaimDecides : Obligations.SelfCheckClaimDecides := by
  intro s claim p cold claimed supply checkOf entriesDone visits goesOn
  constructor
  · intro i d suspended current previous position held job matched previousMatched
    subst position
    let r := (s.entry i).selfCheck (resultCheck claim.job.results 0) (resultCheck claim.job.results 1)
    have first : resultCheck claim.job.results 0 = checkOf current.value := by
      rw [job, Job.results_checkEntry]
      rfl
    have second {g} (older : previous = some g) :
        resultCheck claim.job.results 1 = checkOf g.value := by
      rw [job, Job.results_checkEntry, older]
      rfl
    have runs := exec_ccClaimComplete_of_checking claimed supply (congrArg Job.claimant job)
    rw [State.applyCheck_entry] at runs
    have table := State.goneOn_kt (s.entryChecked i r) i.val cold
    have entries (j : EntryIndex) :
        (((s.entryChecked i r).selfCheckFrom (i.val + 1) cold).arbitrated).entry j =
        if i = j then r.1 else s.entry j := by
      refine (State.entry_congr table j).trans ?_
      rw [State.entryChecked, State.entry_congr (State.raiseIf_kt ..), State.entry_setEntry]
      rfl
    have own := (entries i).trans (if_pos rfl)
    have flag := State.entryChecked_flag s i r (i.val + 1) cold
    refine ⟨_, runs, (s.checked_entry i r).goesOn, fun j other => ?_, ?_, fun same older => ?_,
      fun same older => ?_, fun differs => ?_⟩
    · exact (entries j).trans (if_neg other.symm)
    · exact (State.goneOn_channels ..).trans (State.raiseIf_channels ..)
    · have outcome : r = (.held d suspended current previous, false) := by
        refine (congrArg (Entry.selfCheck _ _) held).trans ?_
        exact Entry.selfCheck_of_matches (first.trans same) fun g stored =>
          (second stored).trans (older g stored)
      exact ⟨own.trans ((congrArg Prod.fst outcome).trans held.symm),
        flag.trans (by rw [outcome, Bool.or_false])⟩
    · obtain ⟨g, stored, differs⟩ : ∃ g, previous = some g ∧ checkOf g.value ≠ g.check := by
        simpa [previousMatched] using older
      have outcome : r = (.held d suspended current none, true) := by
        refine (congrArg (Entry.selfCheck _ _) (held.trans (by rw [stored]))).trans ?_
        exact Entry.selfCheck_of_previous_differs (first.trans same)
          fun equal => differs ((second stored).symm.trans equal)
      exact ⟨own.trans (congrArg Prod.fst outcome), flag.trans (by rw [outcome, Bool.or_true])⟩
    · have outcome : r = (.faulted d current.number current.check, true) := by
        refine (congrArg (Entry.selfCheck _ _) held).trans ?_
        exact Entry.selfCheck_of_differs fun equal => differs (first.symm.trans equal)
      exact ⟨own.trans (congrArg Prod.fst outcome), flag.trans (by rw [outcome, Bool.or_true])⟩
  · intro c g position stored job
    subst position
    let r := (s.channel c).selfCheck (resultCheck claim.job.results 0)
    have first : resultCheck claim.job.results 0 = checkOf g.value := by
      rw [job, Job.results_checkTransport]
      rfl
    have runs := exec_ccClaimComplete_of_checking claimed supply (congrArg Job.claimant job)
    rw [State.applyCheck_channel] at runs
    have records := State.goneOn_channels (s.channelChecked c r) (96 + c.val) cold
    have channels (e : ChannelNo) :
        (((s.channelChecked c r).selfCheckFrom (96 + c.val + 1) cold).arbitrated).channel e =
          if c = e then r.1 else s.channel e := by
      refine (State.channel_congr records e).trans ?_
      rw [State.channelChecked, State.channel_congr (State.raiseIf_channels ..),
        State.channel_setChannel]
      rfl
    have own := (channels c).trans (if_pos rfl)
    have flag := State.channelChecked_flag s c r (96 + c.val + 1) cold
    refine ⟨_, runs, (s.checked_channel c r).goesOn, ?_, fun e other => ?_, fun same => ?_,
      fun differs => ?_⟩
    · exact (State.goneOn_kt ..).trans (State.raiseIf_kt ..)
    · exact (channels e).trans (if_neg other.symm)
    · have outcome : r = (s.channel c, false) :=
        Channel.selfCheck_of_matches stored (first.trans same)
      exact ⟨own.trans (congrArg Prod.fst outcome), flag.trans (by rw [outcome, Bool.or_false])⟩
    · have outcome : r = ({ s.channel c with transport := none, state := .closed }, true) :=
        Channel.selfCheck_of_differs stored fun equal => differs (first.symm.trans equal)
      exact ⟨own.trans (congrArg Prod.fst outcome), flag.trans (by rw [outcome, Bool.or_true])⟩

end Sys2Proof.Machine
/-! The arbiter of the Cipher Core (R32, R35, R36), and the reply frame of the port with ATTN
(R89, R90, R93, R103, R106, R111). -/

namespace Sys2Proof.Machine

/-! ## The arbiter -/

section Arbiter

variable {cc : CipherCore} {record : Option InService} {held : Job} {rest : List WaitingClaim}

theorem Job.waiting_eq (job : Job) :
    job.waiting = if job.claimant = .su then .service else .held job := by
  cases job <;> rfl

theorem Job.custodianSide_iff {job : Job} :
    job.custodianSide = true ↔ job.claimant = .ci ∨ job.claimant = .cec := by
  simp [Job.custodianSide]

/-- A free core grants the claim that the arbiter prefers. -/
theorem CipherCore.release_arbitrate_of_next {w : WaitingClaim} {job : Job}
    (next : nextClaim cc.waiting = some w) (formed : w.job? record = some job) :
    cc.release.arbitrate record = .grant job (cc.waiting.erase w) := by
  simp only [CipherCore.arbitrate, CipherCore.release, next, formed]

theorem nextClaim_cons_of_custodian (side : held.custodianSide = true) :
    nextClaim (.held held :: rest) = some (.held held) := by
  have found : (WaitingClaim.held held :: rest).find? WaitingClaim.custodianSide =
      some (.held held) := List.find?_cons_of_pos side
  simp only [nextClaim, found]

theorem nextClaim_service_held (side : held.custodianSide = true) :
    nextClaim [.service, .held held] = some (.held held) := by
  have found : [WaitingClaim.service, .held held].find? WaitingClaim.custodianSide =
      some (.held held) := (List.find?_cons_of_neg Bool.false_ne_true).trans (List.find?_cons_of_pos side)
  simp only [nextClaim, found]

theorem nextClaim_singleton (w : WaitingClaim) : nextClaim [w] = some w := by
  cases side : w.custodianSide <;> simp [nextClaim, side]

end Arbiter

/-- Settles O35: the presentation, and the release with each of the waiting patterns. -/
theorem arbiterPrefersTheCustodians : Obligations.ArbiterPrefersTheCustodians := by
  intro cc job record granted custodianSide
  refine ⟨CipherCore.present_idle job, fun claim busy => ?_, fun nobody => ?_,
    fun held rest waiting side => ?_, fun held waiting side => ?_, fun r service waiting => ?_⟩
  · rw [CipherCore.present_busy job busy, Job.waiting_eq]
  · simp [CipherCore.arbitrate, CipherCore.release, nextClaim, nobody]
  · have next : nextClaim cc.waiting = some (.held held) := by
      rw [waiting]
      rcases side with custodian | alone
      · exact nextClaim_cons_of_custodian (Job.custodianSide_iff.mpr custodian)
      · rw [alone]
        exact nextClaim_singleton _
    rw [CipherCore.release_arbitrate_of_next next rfl, waiting, List.erase_cons_head]
    rfl
  · have next := nextClaim_service_held (Job.custodianSide_iff.mpr side)
    rw [← waiting] at next
    rw [CipherCore.release_arbitrate_of_next next rfl, waiting]
    simp [granted, CipherCore.grant]
  · have next : nextClaim cc.waiting = some .service := waiting ▸ nextClaim_singleton .service
    have formed : WaitingClaim.service.job? record = some (deriveJob r.body r.bound) := by
      rw [service]
      rfl
    rw [CipherCore.release_arbitrate_of_next next formed, waiting, List.erase_cons_head]
    rfl

/-! ## The reply frame and ATTN -/

section Port

variable {s : State}

theorem ConsoleStatus.code_eq (status : ConsoleStatus) : status.code =
    match status with
    | .done => 0x00 | .busy => 0x01 | .starting => 0x02 | .badFrame => 0x03 | .unknownCommand => 0x04
    | .notPresent => 0x05 | .needTwo => 0x06 | .badValue => 0x07 | .state => 0x08
    | .checkMismatch => 0x09 | .locked => 0x0A | .noChallenge => 0x0B | .randomFault => 0x0C
    | .erasing => 0x0D | .notArmed => 0x0E := by
  cases status <;> rfl

/-- Two words of 11 bits share a set bit exactly where their conjunction is not 0. -/
theorem and_ne_zero_iff {x y : BitVec 11} :
    (x &&& y != 0) = true ↔ ∃ i, i < 11 ∧ x.getLsbD i = true ∧ y.getLsbD i = true := by
  rw [bne_iff_ne, Ne, BitVec.eq_of_getLsbD_eq_iff]
  simp

/-- ATTN is low exactly while a flag is set and enabled, where the port is not OFF (R106). -/
theorem State.attnLow_iff (on : s.ci.port ≠ .off) : s.attnLow = true ↔
    ∃ i, i < 11 ∧ s.ci.flags.getLsbD i = true ∧ s.ci.enables.getLsbD i = true := by
  have shared : s.attnLow = (s.ci.flags &&& s.ci.enables != 0) := by
    cases port : s.ci.port with
    | off => exact absurd port on
    | starting | ready | executing => simp only [State.attnLow, port]
  rw [shared]
  exact and_ne_zero_iff

end Port

/-- Settles O36: a completion, the reads by the state of the port, and ATTN. -/
theorem replyFrameIsPlaced : Obligations.ReplyFrameIsPlaced := by
  intro s status body placed
  refine ⟨fun plain => ?_, fun expiring => ?_, ?_, if_pos rfl, fun address other => if_neg other,
    fun off => ?_, fun starting => ?_, fun c executing => ?_, fun empty => ?_, fun n => ?_,
    fun off => ?_, State.attnLow_iff⟩
  · exact State.finish_plain status body s plain
  · rw [State.finish_expiring status body s expiring, State.expireWindow_eq]
    rfl
  · simp only [State.portRead, State.finish_port]
  · simp only [State.portRead, off]
  · simp only [State.portRead, starting]
  · simp only [State.portRead, executing]
  · simp only [State.portRead, empty]
  · exact congrArg (fun code : Byte => (List.range n).map fun i =>
      (code :: BitVec.ofNat 8 body.length :: body).getD i 0) (ConsoleStatus.code_eq status)
  · simp only [State.attnLow, off]

end Sys2Proof.Machine
/-! The frames of Table 6-8 and the checks at the take (R89 to R92, R95, R102, R113). -/

namespace Sys2Proof.Machine

/-! ## The rows of Table 6-8 -/

section Rows

variable {code least most : Nat} {p : List Byte} {c : Command}

/-- A code with a command has its row in Table 6-8. -/
theorem frameTable_of_code (h : commandOfCode code p = some (least, most, c)) :
    (code, least, most) ∈ frameTable := by
  unfold commandOfCode at h
  split at h <;> cases h
  all_goals decide

/-- A row of Table 6-8 has a command for its code. -/
theorem exists_command_of_row (row : (code, least, most) ∈ frameTable) :
    ∃ c, commandOfCode code p = some (least, most, c) := by
  have rows : ∀ row ∈ frameTable,
      (commandOfCode row.1 p).map (fun x => (x.1, x.2.1)) = some row.2 := List.map_inj_left.mp rfl
  obtain ⟨⟨least', most', c⟩, found, same⟩ := Option.map_eq_some_iff.mp (rows _ row)
  cases same
  exact ⟨c, found⟩

/-- A command's parameters are spelled as Tables 6-8 and 7-2 give them. -/
theorem spelling_of_code (h : commandOfCode code p = some (least, most, c))
    (long : least ≤ p.length) : (code, c) ∈ spelling p := by
  have numbers {w i n : Nat} (within : i + n ≤ least) :
      paramVec w p i n = BitVec.ofNat w (spelledNumber p i n) :=
    paramVec_eq_spelledNumber w p i n (Nat.le_trans within long)
  unfold commandOfCode at h
  split at h <;> cases h
  all_goals simp (discharger := decide) only [numbers, spelling, param, List.mem_cons,
    Prod.mk.injEq, reduceCtorEq, Nat.reduceEqDiff, and_self, true_or, or_true, false_or]

end Rows

/-! ## Reading a frame (R91) -/

section Frames

variable {code n : Byte} {p : List Byte}

theorem readFrame_of_bad (bad : 120 < n.toNat ∨ p.length ≠ n.toNat) :
    readFrame (code :: n :: p) = .bad := by
  refine if_pos ?_
  simpa [Config.parameterMax] using bad

/-- A frame as long as it says is read by its code. -/
theorem readFrame_of_whole (short : n.toNat ≤ 120) (whole : p.length = n.toNat) :
    readFrame (code :: n :: p) =
      match commandOfCode code.toNat p with
      | none => .unknown
      | some (least, most, c) => if least ≤ p.length && p.length ≤ most then .command c else .bad := by
  refine if_neg ?_
  simpa [Config.parameterMax, whole] using short

end Frames

/-! ## Write transactions (R89, R90, R91) -/

section Writes

variable {s : State} {reply : Option ReplyFrame} {bytes : List Byte}

theorem exec_badFrame_own (port : s.ci.port = .ready reply) :
    exec (.badFrame ⟨s.ci.address, bytes⟩) s = .next
      (match readFrame bytes with
        | .emptyWrite => s
        | .bad => s.refuse .badFrame
        | .unknown => s.refuse .unknownCommand
        | .command c => s.takeCommand c) := by
  simp only [exec, execBadFrame, State.portWriteAt, if_true, State.portWrite, port] <;> rfl

/-- A port that is not READY takes nothing, and nothing that names another address is taken. -/
theorem State.portWriteAt_of_deaf {write : WriteTransaction}
    (deaf : (∀ reply, s.ci.port ≠ .ready reply) ∨ write.address ≠ s.ci.address) :
    s.portWriteAt write = s := by
  unfold State.portWriteAt
  split
  · next own =>
    have closed := deaf.resolve_right (not_not.mpr own)
    unfold State.portWrite
    split
    · next reply ready => exact absurd ready (closed reply)
    all_goals rfl
  · rfl

end Writes

/-- Settles O37: the checks of R91 one after the other, then the spelling. -/
theorem framesAreReadAsTable68 : Obligations.FramesAreReadAsTable68 := by
  refine ⟨?_, fun s write deaf => ?_⟩
  on_goal 1 =>
    intro s reply port write
    refine ⟨?_, fun code => ?_, fun code n p => ⟨fun bad => ?_, fun short whole =>
      ⟨fun unknown => ?_, fun least most row => ⟨fun unfit => ?_, fun long fits => ?_⟩⟩⟩⟩
  · exact exec_badFrame_own port
  · exact exec_badFrame_own port
  · exact (exec_badFrame_own port).trans (by rw [readFrame_of_bad bad]; rfl)
  · have none : commandOfCode code.toNat p = none := by
      by_contra found
      obtain ⟨⟨least, most, c⟩, found⟩ := Option.ne_none_iff_exists'.mp found
      exact unknown _ (frameTable_of_code found) rfl
    refine (exec_badFrame_own port).trans ?_
    rw [readFrame_of_whole short whole, none]
    rfl
  · obtain ⟨c, found⟩ := exists_command_of_row (p := p) row
    refine (exec_badFrame_own port).trans ?_
    rw [readFrame_of_whole short whole, found]
    simp only [Bool.and_eq_true, decide_eq_true_iff, if_neg unfit]
    rfl
  · obtain ⟨c, found⟩ := exists_command_of_row (p := p) row
    refine ⟨c, spelling_of_code found long, ?_⟩
    rw [readFrame_of_whole short whole, found]
    simp only [Bool.and_eq_true, decide_eq_true_iff, if_pos (And.intro long fits)]
  · have keeps := State.portWriteAt_of_deaf deaf
    exact ⟨congrArg Host.Outcome.next keeps, congrArg Host.Outcome.next keeps⟩

/-! ## The columns of Table 6-8 -/

section Columns

variable {code least most : Nat} {p : List Byte} {c : Command} {cls : PresenceClass}

/-- ENROL_CUSTODIAN, of which R95 makes an exception. -/
def Command.enrols : Command → Bool
  | .enrolCustodian .. => true
  | _ => false

/-- What each row of Table 6-8 says of its command by the code alone. -/
theorem columns_of_code (row : (code, cls) ∈ classTable)
    (h : commandOfCode code p = some (least, most, c)) :
    c.presenceClass = cls ∧
      c.servedDuringErase = decide (code = 0x01 ∨ code = 0x04 ∨ code = 0x05) ∧
      c.isRead = decide (code = 0x0C ∨ code = 0x0D ∨ code = 0x0E) ∧
      c.enrols = decide (code = 0x48) ∧
      (c.decidesAtTake || c.actsAtTake) = decide (code = 0x03 ∨ code = 0x0A ∨ code = 0x0B ∨
        code = 0x10 ∨ code = 0x11 ∨ code = 0x12) := by
  have cell {f : Command → Bool} {g : Nat → Bool}
      (column : classTable.map (fun row => (commandOfCode row.1 p).map fun x => f x.2.2) =
        classTable.map fun row => some (g row.1)) : f c = g code := by
    have found := List.map_inj_left.mp column _ row
    rw [h] at found
    exact Option.some.inj found
  have column : classTable.map (fun row => (commandOfCode row.1 p).map fun x => x.2.2.presenceClass) =
      classTable.map fun row => some row.2 := rfl
  have found := List.map_inj_left.mp column _ row
  rw [h] at found
  refine ⟨Option.some.inj found, ?_, ?_, ?_, ?_⟩
  · exact cell (g := fun code => decide (code = 0x01 ∨ code = 0x04 ∨ code = 0x05)) rfl
  · exact cell (g := fun code => decide (code = 0x0C ∨ code = 0x0D ∨ code = 0x0E)) rfl
  · exact cell (f := Command.enrols) (g := fun code => decide (code = 0x48)) rfl
  · exact cell (f := fun c => c.decidesAtTake || c.actsAtTake)
      (g := fun code => decide (code = 0x03 ∨ code = 0x0A ∨ code = 0x0B ∨ code = 0x10 ∨ code = 0x11 ∨
        code = 0x12)) rfl

end Columns

/-! ## The take (R92, R95, R102) -/

section Take

variable {s : State} {c : Command}

theorem State.freshPart_eq : s.freshPart c = (c.enrols &&
    decide ((s.ci.custodians.toList.filter fun r => decide (r.state = .enrolled)).length < 2)) := by
  cases c <;> rfl

theorem State.presenceRefusal_of_fresh (fresh : s.freshPart c = true) :
    s.presenceRefusal c = none := by
  simp only [State.presenceRefusal, fresh, if_true]

/-- The presence check by the class, where R95 makes no exception. -/
theorem State.presenceRefusal_of_class (usual : s.freshPart c = false) :
    s.presenceRefusal c =
      match c.presenceClass, s.ci.presence with
      | .none, _ => none
      | .one, [] => some .notPresent
      | .one, _ :: _ => none
      | .two, [] => some .notPresent
      | .two, [_] => some .needTwo
      | .two, _ :: _ :: _ => none := by
  simp only [State.presenceRefusal, usual, Bool.false_eq_true, if_false] <;> rfl

theorem State.presenceRefusal_of_absent (usual : s.freshPart c = false)
    (asks : c.presenceClass ≠ .none) (nobody : s.ci.presence = []) :
    s.presenceRefusal c = some .notPresent := by
  rw [State.presenceRefusal_of_class usual, nobody]
  cases cls : c.presenceClass with
  | none => exact absurd cls asks
  | one | two => rfl

theorem State.presenceRefusal_of_single (usual : s.freshPart c = false)
    (two : c.presenceClass = .two) (single : s.ci.presence.length = 1) :
    s.presenceRefusal c = some .needTwo := by
  obtain ⟨custodian, alone⟩ := List.length_eq_one_iff.mp single
  rw [State.presenceRefusal_of_class usual, two, alone]

theorem State.presenceRefusal_of_enough
    (enough : s.freshPart c = true ∨ c.presenceClass = .none ∨
      (c.presenceClass = .one ∧ 1 ≤ s.ci.presence.length) ∨ 2 ≤ s.ci.presence.length) :
    s.presenceRefusal c = none := by
  cases usual : s.freshPart c with
  | true => exact State.presenceRefusal_of_fresh usual
  | false =>
    rw [State.presenceRefusal_of_class usual]
    rcases enough with fresh | free | ⟨one, somebody⟩ | pair
    · exact nomatch usual.symm.trans fresh
    · rw [free]
    · rw [one]
      cases presence : s.ci.presence with
      | nil => simp [presence] at somebody
      | cons => rfl
    · cases presence : s.ci.presence with
      | nil => simp [presence] at pair
      | cons first rest =>
        cases rest with
        | nil => simp [presence] at pair
        | cons => cases c.presenceClass <;> rfl

theorem State.takeCommand_of_refused {status : ConsoleStatus} (refused : s.takeRefusal c = some status) :
    s.takeCommand c = s.finish status [] := by
  simp only [State.takeCommand, refused]
  rfl

/-- An accepted command that waits for its completion changes the port and the window alone. -/
theorem State.takeCommand_of_waits (accepted : s.takeRefusal c = none)
    (waits : (c.decidesAtTake || c.actsAtTake) = false) : s.takeCommand c = s.accept c := by
  obtain ⟨decides, acts⟩ := Bool.or_eq_false_iff.mp waits
  simp only [State.takeCommand, accepted]
  exact State.startCommand_of_waits decides acts

theorem State.accept_of_keeps (keeps : s.restartsWindow c = false) :
    s.accept c = { s with ci.port := .executing c } := by
  simp only [State.accept, keeps, Bool.false_eq_true, if_false]
  rfl

theorem State.restartsWindow_iff : s.restartsWindow c = true ↔
    c.presenceClass ≠ .none ∧ ¬c.isRead = true ∧ ¬s.freshPart c = true := by
  simp [State.restartsWindow, and_assoc]

theorem State.takeRefusal_of_served (served : c.servedDuringErase = true) :
    s.takeRefusal c = s.presenceRefusal c := by
  simp [State.takeRefusal, served]

end Take

/-- Settles O38: the erase, then presence by the class, then the acceptance. -/
theorem takeChecksEraseThenPresence : Obligations.TakeChecksEraseThenPresence := by
  intro s reply code rest c cls port reads row served fresh read actsAtOnce take refused
  obtain ⟨code', n, p, least, most, bytes, -, found, -, -⟩ := frame_of_command reads
  cases bytes
  obtain ⟨classed, serves, reads', enrols, acts⟩ := columns_of_code row found
  replace serves : c.servedDuringErase = true ↔ served := by
    rw [serves, decide_eq_true_iff]
    simp only [served, BitVec.toNat_eq]
    rfl
  replace reads' : c.isRead = true ↔ read := by
    rw [reads', decide_eq_true_iff]
    simp only [read, BitVec.toNat_eq]
    rfl
  replace acts : (c.decidesAtTake || c.actsAtTake) = true ↔ actsAtOnce := by
    rw [acts, decide_eq_true_iff]
    simp only [actsAtOnce, BitVec.toNat_eq]
    rfl
  have freshens : s.freshPart c = true ↔ fresh := by
    rw [State.freshPart_eq, enrols, Bool.and_eq_true, decide_eq_true_iff, decide_eq_true_iff]
    simp only [fresh, BitVec.toNat_eq]
    rfl
  have runs : take = .next (s.takeCommand c) := exec_commandTaken port reads
  have refuses {status} (refusal : s.takeRefusal c = some status) : refused status :=
    runs.trans (congrArg Host.Outcome.next (State.takeCommand_of_refused refusal))
  refine ⟨fun erasing unserved => ?_, fun quiet => ⟨fun unfresh => ⟨fun asks nobody => ?_,
    fun two single => ?_⟩, fun enough waits => ?_⟩⟩
  · exact refuses (State.takeRefusal_of_erasing erasing
      (Bool.eq_false_iff.mpr fun is => unserved (serves.mp is)))
  all_goals
    have checks : s.takeRefusal c = s.presenceRefusal c := quiet.elim
      State.takeRefusal_of_no_erase fun is => State.takeRefusal_of_served (serves.mpr is)
  · have usual := Bool.eq_false_iff.mpr fun is => unfresh (freshens.mp is)
    exact refuses (checks.trans (State.presenceRefusal_of_absent usual (classed ▸ asks) nobody))
  · have usual := Bool.eq_false_iff.mpr fun is => unfresh (freshens.mp is)
    exact refuses (checks.trans (State.presenceRefusal_of_single usual (classed.trans two) single))
  · rw [← classed, ← freshens] at enough
    have accepted := checks.trans (State.presenceRefusal_of_enough enough)
    have accepts : take = .next (s.accept c) := runs.trans (congrArg Host.Outcome.next
      (State.takeCommand_of_waits accepted (Bool.eq_false_iff.mpr fun is => waits (acts.mp is))))
    rw [accepts, ← classed, ← reads', ← freshens]
    refine ⟨fun keeps => ?_, fun asks unread unfresh => ?_⟩
    · refine congrArg Host.Outcome.next (State.accept_of_keeps (Bool.eq_false_iff.mpr fun restarts => ?_))
      obtain ⟨asks, unread, unfresh⟩ := State.restartsWindow_iff.mp restarts
      exact keeps.elim asks fun is => is.elim unread unfresh
    · exact congrArg Host.Outcome.next
        (State.accept_of_restarts (State.restartsWindow_iff.mpr ⟨asks, unread, unfresh⟩))

end Sys2Proof.Machine
/-! The bodies of the reads (R19, R65, R107, R109, R155, R180; Tables 6-5 and 6-9). -/

namespace Sys2Proof.Machine

/-! ## Bytes -/

/-- A byte of a number by division (05 6.8). -/
theorem natBytes_eq (n k : Nat) :
    natBytes n k = (List.range n).map fun i => BitVec.ofNat 8 (k / 256 ^ (n - 1 - i)) := by
  refine List.map_congr_left fun i _ => ?_
  rw [Nat.shiftRight_eq_div_pow, Nat.pow_mul]

@[simp] theorem natBytes_length (n k : Nat) : (natBytes n k).length = n := by
  simp [natBytes]

@[simp] theorem vecBytes_length {w : Nat} (n : Nat) (x : BitVec w) : (vecBytes n x).length = n :=
  natBytes_length n x.toNat

theorem natBytes_one (k : Nat) : natBytes 1 k = [BitVec.ofNat 8 k] := rfl

/-- Two flags of one byte. -/
theorem boolByte_pair (a b : Bool) : boolByte a ||| boolByte b <<< 1 =
    BitVec.ofNat 8 ((if a then 2 ^ 0 else 0) + if b then 2 ^ 1 else 0) := by
  cases a <;> cases b <;> rfl

theorem toList_eq_map_finRange {α : Type} {n : Nat} (v : Vector α n) :
    v.toList = (List.finRange n).map fun i => v[i] := by
  refine List.ext_getElem (by simp) fun i h h' => ?_
  simp

/-! ## The lengths of the bodies (Tables 6-5 and 6-9) -/

theorem generationBytes_length (g : Option (Byte × CheckValue)) : (generationBytes g).length = 4 := by
  rcases g with _ | ⟨n, check⟩ <;> simp [generationBytes]

theorem Custodian.checkBytes_length (r : Custodian) : r.checkBytes.length = 3 := by
  cases state : r.state <;> simp [Custodian.checkBytes, state]

theorem State.statusBody_length (s : State) : s.statusBody.length = 56 := by
  have checks : (s.ci.custodians.toList.flatMap Custodian.checkBytes).length = 24 := by
    simp [List.length_flatMap, Custodian.checkBytes_length]
  simp [State.statusBody, State.presenceBytes, checks]

theorem State.eventsBody_length (s : State) : s.eventsBody.length = 6 := by
  cases pair : s.ci.violations.pair <;> simp [State.eventsBody, pair]

theorem TamperRecord.bytes_length (r : TamperRecord) : r.bytes.length = 12 := by
  simp [TamperRecord.bytes]

theorem TamperMonitor.bytes_length (tm : TamperMonitor) : tm.bytes.length = 16 := by
  simp [TamperMonitor.bytes, MeshRecord.bytes]

theorem Entry.bytes_length (e : Entry) : e.bytes.length = 40 := by
  simp [Entry.bytes, generationBytes_length]

theorem Channel.bytes_length (inService : Bool) (ch : Channel) : (ch.bytes inService).length = 18 := by
  cases refusal : ch.refusal <;> simp [Channel.bytes, Channel.refusalBytes, generationBytes_length, refusal]

/-! ## The bodies, part by part -/

section Bodies

variable {s : State}

theorem State.presenceBytes_eq : s.presenceBytes = (List.range 3).map fun i =>
    match s.ci.presence[i]? with | none => 0 | some c => BitVec.ofNat 8 (c.val + 1) := by
  refine List.map_congr_left fun i _ => ?_
  rw [List.getD_eq_getElem?_getD, List.getElem?_map]
  cases s.ci.presence[i]? <;> rfl

theorem State.custodianBytes_eq : s.ci.custodians.toList.map Custodian.statusByte =
    (List.finRange 8).map fun c => BitVec.ofNat 8 (16 * (match (s.custodian c).state with
      | .vacant => 0 | .enrolled => 1 | .locked => 2) + (s.custodian c).failures) := by
  rw [toList_eq_map_finRange, List.map_map]
  refine List.map_congr_left fun c _ => ?_
  change (s.custodian c).statusByte = _
  cases state : (s.custodian c).state <;> simp only [Custodian.statusByte, state] <;> rfl

theorem State.checkBytes_eq : s.ci.custodians.toList.flatMap Custodian.checkBytes =
    (List.finRange 8).flatMap fun c => natBytes 3 (match (s.custodian c).state with
      | .vacant => 0 | .enrolled | .locked => (s.custodian c).check.toNat) := by
  rw [toList_eq_map_finRange, List.flatMap_map]
  refine List.flatMap_congr fun c _ => ?_
  change (s.custodian c).checkBytes = _
  cases state : (s.custodian c).state <;> simp only [Custodian.checkBytes, state] <;> rfl

theorem MonitorState.codeByte_eq (x : MonitorState) : BitVec.ofNat 8 x.code =
    match x with | .unarmed => 0 | .learning => 1 | .armed => 2 | .tripped => 3 := by
  cases x <;> rfl

theorem State.erasingByte_eq : boolByte s.erasing = if s.ec.position = none then 0 else 1 := by
  unfold State.erasing
  cases s.ec.position <;> rfl

theorem State.challengeByte_eq : BitVec.ofNat 8 s.challengeLife =
    match s.ci.challenge with
    | none => 0
    | some x => BitVec.ofNat 8 (x.drawnAt + 60 - s.pwr.seconds).toNat := by
  unfold State.challengeLife
  cases s.ci.challenge <;> rfl

theorem State.ceremonyByte_eq : s.ceremonyByte =
    match s.cec with
    | none => 0
    | some x => BitVec.ofNat 8 (16 * (match x.target with
        | .newKey .. => 1 | .rollover .. => 2 | .transport _ => 3) +
        match x.state with | .collecting => 1 | .ready => 2) := by
  unfold State.ceremonyByte
  cases s.cec with
  | none => rfl
  | some x => rcases x with ⟨target, _, _, _, _, state⟩; cases target <;> cases state <;> rfl

theorem TestResult.codeByte_eq (x : TestResult) : BitVec.ofNat 8 x.code =
    match x with | .noTest => 0 | .passed => 1 | .failed => 2 := by
  cases x <;> rfl

theorem ReplyStatus.codeByte_eq (x : ReplyStatus) : BitVec.ofNat 8 x.code =
    match x with
    | .ok => 0 | .broken => 1 | .badLength => 2 | .unknownKind => 3 | .badField => 4 | .limit => 5
    | .channelClosed => 6 | .channelHalted => 7 | .notPermitted => 8 | .wrongIssuer => 9
    | .noEntry => 10 | .suspended => 11 | .noGeneration => 12 | .allowanceShort => 13
    | .zeroized => 14 := by
  cases x <;> rfl

theorem ChannelState.codeByte_eq (x : ChannelState) : BitVec.ofNat 8 x.code =
    match x with | .closed => 0 | .opened => 1 | .halted => 2 := by
  cases x <;> rfl

theorem State.inServiceByte_eq (c : ChannelNo) : boolByte (s.channelInService c) =
    if ∃ r ∈ s.su.inService, r.channel = c then 1 else 0 := by
  unfold State.channelInService
  cases s.su.inService with
  | none => simp [boolByte]
  | some r => by_cases own : r.channel = c <;> simp [boolByte, own]

/-- The two refusal bytes (Table 6-9). -/
theorem Channel.refusalBytes_eq (ch : Channel) : ch.refusalBytes =
    match ch.refusal with
    | none => [0, 0]
    | some f => [BitVec.ofNat 8 (1 + if f.superseded then 2 ^ 1 else 0), BitVec.ofNat 8 f.status.code]
    := by
  unfold Channel.refusalBytes
  cases ch.refusal with
  | none => rfl
  | some f => cases superseded : f.superseded <;> simp [boolByte, superseded]

end Bodies

/-! ## The row of a read (R92, R93; assumption log 4) -/

section Row

variable {s : State} {reply : Option ReplyFrame} {c : Command}

/-- A completion places the reply frame whatever the port was and whatever was decided. -/
theorem State.finish_of_desk (port : Port) (decided : Option ConsoleStatus) (status : ConsoleStatus)
    (body : List Byte) (t : State) :
    State.finish status body { t with ci.port := port, ci.decided := decided } =
      t.finish status body := by
  cases pending : t.ci.expiryPending with
  | false =>
    rw [State.finish_plain _ _ t pending, State.finish_plain]
    · rfl
    · exact pending
  | true =>
    rw [State.finish_expiring _ _ t pending, State.finish_expiring]
    · rfl
    · exact pending

/-- A command that waits, and that leaves the window as it stands, is served on the accepted state. -/
theorem State.commandRow_of_window_kept {draw : Block} {t : State} {status : ConsoleStatus}
    {body : List Byte} (port : s.ci.port = .ready reply) (passes : s.takeRefusal c = none)
    (keeps : s.restartsWindow c = false) (waits : (c.decidesAtTake || c.actsAtTake) = false)
    (serves : State.serve c draw { s with ci.port := .executing c } =
      some { state := { t with ci.port := .executing c }, status := status, body := body }) :
    s.commandRow c draw = t.finish status body := by
  obtain ⟨decides, acts⟩ := Bool.or_eq_false_iff.mp waits
  rw [State.commandRow_of_served port passes decides acts
    ((congrArg (State.serve c draw) (State.accept_of_keeps keeps)).trans serves)]
  exact State.finish_of_desk _ t.ci.decided _ _ t

/-- A command of no class that an erase does not refuse is always taken. -/
theorem State.takeRefusal_of_free (served : c.servedDuringErase = true)
    (free : c.presenceClass = .none) : s.takeRefusal c = none :=
  (State.takeRefusal_of_served served).trans (State.presenceRefusal_of_enough (.inr (.inl free)))

theorem State.takeRefusal_of_takes (takes : s.TakesWith 1) (one : c.presenceClass = .one) :
    s.takeRefusal c = none := by
  obtain ⟨-, quiet, somebody⟩ := takes
  exact (State.takeRefusal_of_no_erase quiet).trans (State.presenceRefusal_of_somebody one somebody)

theorem State.restartsWindow_of_free (free : c.presenceClass = .none) :
    s.restartsWindow c = false :=
  Bool.eq_false_iff.mpr fun restarts => (State.restartsWindow_iff.mp restarts).1 free

theorem State.restartsWindow_of_read (read : c.isRead = true) : s.restartsWindow c = false :=
  Bool.eq_false_iff.mpr fun restarts => (State.restartsWindow_iff.mp restarts).2.1 read

end Row

/-- Settles O39: each read's take and completion, with its body part by part. -/
theorem readsAnswerWithTheirBodies : Obligations.ReadsAnswerWithTheirBodies := by
  unfold Obligations.ReadsAnswerWithTheirBodies
  intro number bit generation refusalCode statusBytes entryBytes channelBytes meshBytes answers
  have numbers : number = natBytes := funext fun n => funext fun k => (natBytes_eq n k).symm
  clear_value number
  subst numbers
  have generations : generation = generationBytes := funext fun g => by
    rcases g with _ | ⟨n, check⟩ <;> rfl
  clear_value generation
  subst generations
  have statuses (s : State) : s.statusBody = statusBytes s := by
    rw [State.statusBody, MonitorState.codeByte_eq, State.erasingByte_eq, boolByte_pair,
      State.presenceBytes_eq, State.challengeByte_eq, State.ceremonyByte_eq, State.custodianBytes_eq,
      TestResult.codeByte_eq, State.checkBytes_eq]
    rfl
  have entries (e : Entry) : e.bytes = entryBytes e := by
    cases e with
    | empty => rfl
    | held d suspended current previous => cases suspended <;> cases previous <;> rfl
    | faulted => rfl
  have channels (s : State) (c : ChannelNo) :
      (s.channel c).bytes (s.channelInService c) = channelBytes s c := by
    have status (x : ReplyStatus) : BitVec.ofNat 8 x.code = refusalCode x := x.codeByte_eq
    have binding : vecBytes 2 ((s.channel c).binding.getD 0) =
        natBytes 2 (((s.channel c).binding.map BitVec.toNat).getD 0) := by
      cases (s.channel c).binding <;> rfl
    rw [Channel.bytes, ChannelState.codeByte_eq, State.inServiceByte_eq, Channel.refusalBytes_eq, binding]
    simp only [status]
    rfl
  have meshes (r : MeshRecord) : r.bytes = meshBytes r := by
    have valid : boolByte r.lastValid = BitVec.ofNat 8 (bit r.lastValid 0) := by
      cases r.lastValid <;> rfl
    rw [MeshRecord.bytes, valid]
  refine ⟨fun s reply port => ⟨?_, ?_, ?_⟩, fun s takes => ?_⟩
  · refine ⟨congrArg Host.Outcome.next (State.commandRow_of_window_kept port
      (State.takeRefusal_of_free rfl rfl) (State.restartsWindow_of_free rfl) rfl ?_), ?_⟩
    · rw [← statuses]
      rfl
    · rw [← statuses]
      exact State.statusBody_length s
  · refine ⟨congrArg Host.Outcome.next (State.commandRow_of_window_kept port
      (State.takeRefusal_of_free rfl rfl) (State.restartsWindow_of_free rfl) rfl ?_), ?_⟩
    · rfl
    · exact State.eventsBody_length s
  · have body : natBytes 1 s.ec.record.causes.toNat ++ natBytes 4 s.ec.record.firstTrigger.toNat ++
        natBytes 2 s.ec.record.meshA ++ natBytes 2 s.ec.record.meshB ++ natBytes 2 s.ec.record.count ++
        [BitVec.ofNat 8 (bit s.ec.record.completed 0 + bit s.ec.record.acknowledged 1)] =
          s.ec.record.bytes := by
      rw [TamperRecord.bytes, boolByte_pair]
      rfl
    refine ⟨congrArg Host.Outcome.next (State.commandRow_of_window_kept port
      (State.takeRefusal_of_free rfl rfl) (State.restartsWindow_of_free rfl) rfl ?_), ?_⟩
    · dsimp only
      rw [body]
      rfl
    · dsimp only
      rw [body]
      exact TamperRecord.bytes_length _
  · obtain ⟨reply, port⟩ := takes.1
    have row {c : Command} {status : ConsoleStatus} {body : List Byte} (one : c.presenceClass = .one)
        (read : c.isRead = true) (waits : (c.decidesAtTake || c.actsAtTake) = false)
        (serves : State.serve c 0 { s with ci.port := .executing c } =
          some { state := { s with ci.port := .executing c }, status := status, body := body }) :
        s.commandRow c 0 = s.finish status body :=
      State.commandRow_of_window_kept port (State.takeRefusal_of_takes takes one)
        (State.restartsWindow_of_read read) waits serves
    refine ⟨⟨congrArg Host.Outcome.next (row rfl rfl rfl ?_), ?_⟩, fun b high =>
      congrArg Host.Outcome.next (row rfl rfl rfl ?_), fun b i index =>
      ⟨congrArg Host.Outcome.next (row rfl rfl rfl ?_), ?_⟩, fun b high =>
      congrArg Host.Outcome.next (row rfl rfl rfl ?_), fun b c number =>
      ⟨congrArg Host.Outcome.next (row rfl rfl rfl ?_), ?_⟩⟩
    · rw [← meshes, ← meshes]
      rfl
    · rw [← meshes, ← meshes]
      exact TamperMonitor.bytes_length s.tm
    · simp only [State.serve, State.serveReadEntry, entryIndex?_eq_none high]
      rfl
    · simp only [State.serve, State.serveReadEntry, entryIndex?_eq_some index, ← entries]
      rfl
    · rw [← entries]
      exact Entry.bytes_length _
    · simp only [State.serve, State.serveReadChannel, channelNo?_eq_none high]
      rfl
    · simp only [State.serve, State.serveReadChannel, channelNo?_eq_some number, ← channels]
      rfl
    · rw [← channels]
      exact Channel.bytes_length _ _

end Sys2Proof.Machine

/-! CHALLENGE with its repetition test (R98). -/

namespace Sys2Proof.Machine

/-! ## The longest run of equal bytes -/

/-- A constant list that stands across the end of a run goes on with the run's byte. -/
theorem replicate_infix_run {n run : Nat} {v b c : Byte} {rest : List Byte} (other : c ≠ b) :
    List.replicate n v <:+: List.replicate run b ++ c :: rest ↔
      List.replicate n v <:+: List.replicate run b ∨ List.replicate n v <:+: c :: rest := by
  rw [List.infix_append_iff_ne_nil]
  refine or_congr_right (or_iff_left ?_)
  rintro ⟨front, back, before, after, whole, suffix, start⟩
  obtain ⟨y, tail, rfl⟩ := List.exists_cons_of_ne_nil after
  obtain ⟨x, member⟩ := List.exists_mem_of_ne_nil front before
  have inRun : x = b := List.eq_of_mem_replicate (suffix.subset member)
  have inRest : y = c := (List.cons_prefix_cons.mp start).1
  have first : x = v := List.eq_of_mem_replicate (whole ▸ List.mem_append_left _ member)
  have second : y = v :=
    List.eq_of_mem_replicate (whole ▸ List.mem_append_right _ List.mem_cons_self)
  exact other (inRest.symm.trans (second.trans (first.symm.trans inRun)))

theorem exists_replicate_infix_replicate {n run : Nat} {b : Byte} :
    (∃ v, List.replicate n v <:+: List.replicate run b) ↔ n ≤ run := by
  constructor
  · rintro ⟨v, within⟩
    simpa using within.length_le
  · intro within
    exact ⟨b, List.infix_replicate_iff.mpr (by simpa using within)⟩

/-- The longest run is as long as the longest constant list that stands in the bytes. -/
theorem le_longestRun_iff {n : Nat} (l : List Byte) : ∀ (b : Byte) (run : Nat),
    n ≤ longestRun b run l ↔ ∃ v, List.replicate n v <:+: List.replicate run b ++ l := by
  induction l with
  | nil =>
    intro b run
    rw [List.append_nil]
    exact exists_replicate_infix_replicate.symm
  | cons c rest ih =>
    intro b run
    rw [longestRun]
    by_cases same : c = b
    · subst same
      have longer : List.replicate run c ++ c :: rest = List.replicate (run + 1) c ++ rest := by
        rw [List.replicate_succ', List.append_assoc]
        rfl
      rw [if_pos rfl, longer]
      exact ih c (run + 1)
    · rw [if_neg same, le_max_iff, ih c 1, ← exists_replicate_infix_replicate (b := b), ← exists_or]
      exact exists_congr fun v => (replicate_infix_run same).symm

/-- Six equal bytes in a row, by their place. -/
theorem exists_six_infix_iff (byte : Nat → Byte) :
    (∃ v, List.replicate 6 v <:+: (List.range 16).map byte) ↔
      ∃ i, i ≤ 10 ∧ ∀ j, j < 6 → byte (i + j) = byte i := by
  constructor
  · rintro ⟨v, stands⟩
    obtain ⟨i, within, bytes⟩ := List.infix_iff_getElem?.mp stands
    simp only [List.length_replicate, List.length_map, List.length_range] at within bytes
    have each (j : Nat) (h : j < 6) : byte (i + j) = v := by
      have here := bytes j h
      rw [List.getElem_replicate, List.getElem?_map, List.getElem?_range (by omega)] at here
      rw [Nat.add_comm]
      exact Option.some.inj here
    exact ⟨i, by omega, fun j h => (each j h).trans (each 0 (by decide)).symm⟩
  · rintro ⟨i, within, equal⟩
    refine ⟨byte i, List.infix_iff_getElem?.mpr ⟨i, ?_, fun j h => ?_⟩⟩
    · simp only [List.length_replicate, List.length_map, List.length_range]
      omega
    · rw [List.length_replicate] at h
      rw [List.getElem_replicate, List.getElem?_map, List.getElem?_range (by omega), Nat.add_comm]
      exact congrArg some (equal j h)

/-- The repetition test fails for the two reasons that R98 gives. -/
theorem drawPasses_eq_false_iff {last : Option Block} {draw : Block} {byte : Nat → Byte}
    (bytes : vecBytes 16 draw = (List.range 16).map byte) :
    drawPasses last draw = false ↔
      last = some draw ∨ ∃ i, i ≤ 10 ∧ ∀ j, j < 6 → byte (i + j) = byte i := by
  obtain ⟨b, rest, spelled⟩ : ∃ b rest, vecBytes 16 draw = b :: rest := ⟨_, _, rfl⟩
  have runs : 6 ≤ longestRun b 1 rest ↔ ∃ v, List.replicate 6 v <:+: vecBytes 16 draw := by
    rw [spelled]
    exact le_longestRun_iff rest b 1
  rw [← exists_six_infix_iff, ← bytes, ← runs]
  simp only [drawPasses, spelled, Config.repetitionLimit, Bool.and_eq_false_iff, bne_eq_false_iff_eq]
  exact or_congr_right (decide_eq_false_iff_not.trans Nat.not_lt)

/-! ## The row -/

/-- Byte 31 of STATUS is the result of the repetition test (Table 6-5). -/
theorem State.statusBody_test (s : State) :
    s.statusBody.getD 31 0 = BitVec.ofNat 8 s.ci.random.test.code := by
  rw [State.statusBody, List.getD_append _ _ _ _ (by simp [State.presenceBytes]),
    List.getD_append_right _ _ _ _ (by simp [State.presenceBytes])]
  simp [State.presenceBytes]

@[simp] theorem State.finish_random (status : ConsoleStatus) (body : List Byte) (s : State) :
    (s.finish status body).ci.random = s.ci.random := by
  cases pending : s.ci.expiryPending with
  | false =>
    rw [State.finish_plain _ _ s pending]
    rfl
  | true =>
    rw [State.finish_expiring _ _ s pending, State.expireWindow_eq]
    rfl

/-- Settles O40: the draw passes the repetition test or fails it. -/
theorem challengeIsDrawn : Obligations.ChallengeIsDrawn := by
  intro s reply draw port quiet byte fails
  have test : drawPasses s.ci.random.lastPassed draw = false ↔ fails :=
    drawPasses_eq_false_iff rfl
  have row {t : State} {status : ConsoleStatus} {body : List Byte}
      (serves : State.serveChallenge draw { s with ci.port := .executing .challenge } =
        { state := { t with ci.port := .executing .challenge }, status := status, body := body }) :
      exec (.challenge draw) s = .next (t.finish status body) :=
    congrArg Host.Outcome.next (State.commandRow_of_window_kept port
      ((State.takeRefusal_of_no_erase quiet).trans
        (State.presenceRefusal_of_enough (.inr (.inl rfl))))
      (State.restartsWindow_of_free rfl) rfl (congrArg some serves))
  have failing (failed : fails) : exec (.challenge draw) s = .next (State.finish .randomFault []
      { s with ci.challenge := none, ci.random.test := .failed }) :=
    row (if_neg (Bool.eq_false_iff.mp (test.mpr failed)))
  have passing (passed : ¬fails) :
      exec (.challenge draw) s = .next (State.finish .done ((List.range 16).map byte)
        { s with
          ci.challenge := some { value := draw, drawnAt := s.pwr.seconds }
          ci.random := { lastPassed := some draw, test := .passed } }) :=
    row (if_pos (Bool.not_eq_false _ ▸ fun is => passed (test.mp is)))
  refine ⟨failing, passing, ?_⟩
  by_cases failed : fails
  · refine ⟨_, failing failed, fun _ => ?_, fun passed => absurd failed passed⟩
    rw [State.statusBody_test, State.finish_random]
    rfl
  · refine ⟨_, passing failed, fun is => absurd is failed, fun _ => ?_⟩
    rw [State.statusBody_test, State.finish_random]
    rfl

end Sys2Proof.Machine

/-! The commands that present a claim (R93, R100, R116, R117, R119), and LOGOFF, SET_EVENT_ENABLES and
CANCEL_CEREMONY (R104, R108, R122). -/

namespace Sys2Proof.Machine

/-! ## A command that waits with its outcome decided (R93) -/

section Decided

variable {s : State} {c : Command} {draw : Block} {reply : Option ReplyFrame}

theorem exec_commandComplete_of_claim (port : s.ci.port = .executing c)
    (unserved : s.serve c draw = none) (claims : s.ci.decided = none) :
    exec (.commandComplete draw) s = .next s := by
  simp only [exec, execCommandComplete, State.completeCommand, port, unserved, claims]

theorem exec_commandComplete_of_decided {status : ConsoleStatus} (port : s.ci.port = .executing c)
    (unserved : s.serve c draw = none) (decided : s.ci.decided = some status) :
    exec (.commandComplete draw) s = .next (s.finish status []) := by
  simp only [exec, execCommandComplete, State.completeCommand, port, unserved, decided]

/-- A command whose checks decide at the take: its take leaves it in progress, and its row completes it. -/
theorem State.rows_of_decided {base : State} {status : ConsoleStatus} (port : s.ci.port = .ready reply)
    (unserved : ∀ t : State, t.serve c 0 = none)
    (takes : s.takeCommand c = { base with ci.port := .executing c, ci.decided := some status }) :
    s.commandRow c 0 = base.finish status [] ∧
      ∀ bytes, readFrame bytes = .command c → exec (.commandTaken ⟨s.ci.address, bytes⟩) s =
        .next { base with ci.port := .executing c, ci.decided := some status } := by
  refine ⟨?_, fun bytes reads => ?_⟩
  · simp only [State.commandRow, port, takes, State.completeCommand, unserved]
    exact State.finish_of_desk _ _ _ _ base
  · rw [exec_commandTaken port reads, takes]

/-- The row of a command whose claim stands goes no further (R93). -/
theorem State.commandRow_of_claim {t : State} (port : s.ci.port = .ready reply)
    (unserved : ∀ t : State, t.serve c 0 = none) (takes : s.takeCommand c = t)
    (executing : t.ci.port = .executing c) (claims : t.ci.decided = none) : s.commandRow c 0 = t := by
  simp only [State.commandRow, port, takes, State.completeCommand, executing, unserved, claims]

theorem State.takeCommand_of_accepted (accepted : s.takeRefusal c = none) :
    s.takeCommand c = (s.accept c).startCommand c := by
  simp only [State.takeCommand, accepted]

theorem State.takeRefusal_of_two (takes : s.TakesWith 2) : s.takeRefusal c = none := by
  obtain ⟨-, quiet, pair⟩ := takes
  exact (State.takeRefusal_of_no_erase quiet).trans
    (State.presenceRefusal_of_enough (.inr (.inr (.inr pair))))

/-- A command of class two other than ENROL_CUSTODIAN restarts the window (R92). -/
theorem State.restartsWindow_of_two (two : c.presenceClass = .two) (unread : c.isRead = false)
    (other : c.enrols = false) : s.restartsWindow c = true := by
  rw [State.restartsWindow_iff, two, unread, State.freshPart_eq, other]
  exact ⟨nofun, nofun, nofun⟩

end Decided

/-! ## RESPOND (R100) -/

section Respond

variable {s : State} {n : Byte} {c : CustodianNo} {x : Challenge}

theorem State.respondJob_outside (outside : n.toNat = 0 ∨ 8 < n.toNat) :
    s.respondJob n = .inl .badValue := by
  simp only [State.respondJob, custodianNo?_eq_none outside]

theorem State.respondJob_of_none (number : n.toNat = c.val + 1) (none : s.ci.challenge = none) :
    s.respondJob n = .inl .noChallenge := by
  simp only [State.respondJob, custodianNo?_eq_some number, none]

theorem State.respondJob_of_vacant (number : n.toNat = c.val + 1) (drawn : s.ci.challenge = some x)
    (vacant : (s.custodian c).state = .vacant) : s.respondJob n = .inl .badValue := by
  simp only [State.respondJob, custodianNo?_eq_some number, drawn, vacant]

theorem State.respondJob_of_locked (number : n.toNat = c.val + 1) (drawn : s.ci.challenge = some x)
    (locked : (s.custodian c).state = .locked) : s.respondJob n = .inl .locked := by
  simp only [State.respondJob, custodianNo?_eq_some number, drawn, locked]

theorem State.respondJob_of_enrolled (number : n.toNat = c.val + 1) (drawn : s.ci.challenge = some x)
    (enrolled : (s.custodian c).state = .enrolled) : s.respondJob n =
      if c ∈ s.ci.presence ∨ 3 ≤ s.ci.presence.length then .inl .state
      else .inr (.respond (s.custodian c).key x.value) := by
  simp only [State.respondJob, custodianNo?_eq_some number, drawn, enrolled] <;> rfl

end Respond

/-! ## ENTER_COMPONENT and COMMIT (R116, R117, R119) -/

section Claims

variable {s : State} {n : Byte} {block1 block2 : Block} {c : CustodianNo} {x : Ceremony}

theorem State.componentJob_outside (outside : n.toNat = 0 ∨ 8 < n.toNat) :
    s.componentJob n block1 block2 = .inl .badValue := by
  simp only [State.componentJob, custodianNo?_eq_none outside]

theorem State.componentJob_of_none (number : n.toNat = c.val + 1) (none : s.cec = none) :
    s.componentJob n block1 block2 = .inl .state := by
  simp only [State.componentJob, custodianNo?_eq_some number, none]

theorem State.componentJob_of_some (number : n.toNat = c.val + 1) (standing : s.cec = some x) :
    s.componentJob n block1 block2 =
      if x.state = .ready ∨ c ∉ s.ci.presence ∨ c ∈ x.contributors then .inl .state
      else .inr (.component (s.custodian c).key block1 block2) := by
  simp only [State.componentJob, custodianNo?_eq_some number, standing]

theorem State.commitJob_of_unready (unready : s.cec = none ∨ ∃ x, s.cec = some x ∧ x.state = .collecting) :
    s.commitJob = .inl .state := by
  rcases unready with none | ⟨x, standing, collecting⟩
  · simp only [State.commitJob, none]
  · simp only [State.commitJob, standing, collecting]

theorem State.commitJob_of_ready (standing : s.cec = some x) (ready : x.state = .ready) :
    s.commitJob = .inr (.commit x.combined) := by
  simp only [State.commitJob, standing, ready]

end Claims

/-- Settles O41: the completion of such a command, and each command's checks in order. -/
theorem claimCommandsCheckFirst : Obligations.ClaimCommandsCheckFirst := by
  refine ⟨fun s c draw kinds port => ?_, ?_, ?_⟩
  · have unserved : s.serve c draw = none := by
      rcases kinds with ⟨_, _, rfl⟩ | ⟨_, _, _, _, rfl⟩ | ⟨_, rfl⟩ <;> rfl
    exact ⟨exec_commandComplete_of_claim port unserved,
      fun status => exec_commandComplete_of_decided port unserved⟩
  · intro s reply n response port quiet refused
    have accepts : s.takeCommand (.respond n response) =
        State.startRespond n { s with ci.port := .executing (.respond n response) } := by
      rw [State.takeCommand_of_accepted ((State.takeRefusal_of_no_erase quiet).trans
        (State.presenceRefusal_of_enough (.inr (.inl rfl))))]
      exact congrArg (State.startRespond n)
        (State.accept_of_keeps (State.restartsWindow_of_free rfl))
    have refuses {status} (checks : s.respondJob n = .inl status) : refused status := by
      have takes : s.takeCommand (.respond n response) =
          { s with ci.port := .executing (.respond n response), ci.decided := some status } := by
        have checks' : State.respondJob n { s with ci.port := .executing (.respond n response) } =
            .inl status := checks
        rw [accepts, State.startRespond, checks']
        rfl
      obtain ⟨row, taken⟩ := State.rows_of_decided port (fun _ => rfl) takes
      exact ⟨congrArg Host.Outcome.next row, taken⟩
    refine ⟨fun outside => refuses (State.respondJob_outside outside), fun c number =>
      ⟨fun none => refuses (State.respondJob_of_none number none), fun x drawn =>
      ⟨fun vacant => refuses (State.respondJob_of_vacant number drawn vacant),
        fun locked => refuses (State.respondJob_of_locked number drawn locked),
        fun enrolled => ⟨fun unfit => refuses ?_, fun absent room => ?_⟩⟩⟩⟩
    · exact (State.respondJob_of_enrolled number drawn enrolled).trans (if_pos unfit)
    · have checks : State.respondJob n { s with ci.port := .executing (.respond n response) } =
          .inr (.respond (s.custodian c).key x.value) :=
        (State.respondJob_of_enrolled number drawn enrolled).trans
          (if_neg (not_or.mpr ⟨absent, Nat.not_le.mpr room⟩))
      refine congrArg Host.Outcome.next (State.commandRow_of_claim port (fun _ => rfl) ?_ rfl rfl)
      rw [accepts, State.startRespond, checks]
      rfl
  · intro s takes
    obtain ⟨reply, port⟩ := takes.1
    let accepted (c : Command) : State := { s.windowRestarted with ci.port := .executing c }
    have accepts {c : Command} (restarts : s.restartsWindow c = true) :
        s.takeCommand c = (accepted c).startCommand c := by
      rw [State.takeCommand_of_accepted (State.takeRefusal_of_two takes),
        State.accept_of_restarts restarts]
    have refuses {c : Command} {job : ConsoleStatus ⊕ Job} {status : ConsoleStatus}
        (restarts : s.restartsWindow c = true) (unserved : ∀ t : State, t.serve c 0 = none)
        (starts : (accepted c).startCommand c = (accepted c).claimOrRefuse job)
        (fails : job = .inl status) :=
      State.rows_of_decided (base := s.windowRestarted) (status := status) port unserved
        ((accepts restarts).trans (starts.trans (congrArg (accepted c).claimOrRefuse fails)))
    have presents {c : Command} {checks : ConsoleStatus ⊕ Job} {job : Job}
        (restarts : s.restartsWindow c = true) (unserved : ∀ t : State, t.serve c 0 = none)
        (starts : (accepted c).startCommand c = (accepted c).claimOrRefuse checks)
        (passes : checks = .inr job) : s.commandRow c 0 =
          { s.windowRestarted with
            ci.port := .executing c, ci.decided := none, cc := s.cc.present job } :=
      State.commandRow_of_claim port unserved
        ((accepts restarts).trans (starts.trans (congrArg (accepted c).claimOrRefuse passes))) rfl rfl
    constructor
    · intro n block1 block2 check refused
      have restarts := s.restartsWindow_of_two (c := .enterComponent n block1 block2 check) rfl rfl rfl
      have fails {status} (checks : s.componentJob n block1 block2 = .inl status) : refused status := by
        obtain ⟨row, taken⟩ := refuses restarts (fun _ => rfl) rfl checks
        exact ⟨congrArg Host.Outcome.next row, taken⟩
      refine ⟨fun outside => fails (State.componentJob_outside outside), fun c number =>
        ⟨fun none => fails (State.componentJob_of_none number none), fun x standing =>
        ⟨fun unfit => fails ?_, fun collecting present fresh => ?_⟩⟩⟩
      · exact (State.componentJob_of_some number standing).trans (if_pos unfit)
      · refine congrArg Host.Outcome.next (presents restarts (fun _ => rfl) rfl ?_)
        refine (State.componentJob_of_some (s := s) number standing).trans (if_neg ?_)
        rintro (ready | absent | twice)
        · exact nomatch collecting.symm.trans ready
        · exact absent present
        · exact fresh twice
    · intro expected
      have restarts := s.restartsWindow_of_two (c := .commit expected) rfl rfl rfl
      refine ⟨fun unready => ?_, fun x standing ready => ?_⟩
      · obtain ⟨row, taken⟩ := refuses restarts (fun _ => rfl) rfl
          (State.commitJob_of_unready (s := s) unready)
        exact ⟨congrArg Host.Outcome.next row, taken⟩
      · exact congrArg Host.Outcome.next
          (presents restarts (fun _ => rfl) rfl (State.commitJob_of_ready (s := s) standing ready))

/-! ## LOGOFF, SET_EVENT_ENABLES and CANCEL_CEREMONY (R104, R108, R122) -/

section ClassOne

variable {s : State} {n : Byte} {c : CustodianNo}

theorem State.serveLogoff_outside (outside : n.toNat = 0 ∨ 8 < n.toNat) :
    s.serveLogoff n = unserved .badValue s := by
  simp only [State.serveLogoff, custodianNo?_eq_none outside]

theorem State.serveLogoff_of_absent (number : n.toNat = c.val + 1) (absent : c ∉ s.ci.presence) :
    s.serveLogoff n = unserved .state s := by
  simp only [State.serveLogoff, custodianNo?_eq_some number, if_neg absent]

theorem State.serveLogoff_of_present (number : n.toNat = c.val + 1) (present : c ∈ s.ci.presence) :
    s.serveLogoff n = served (s.shrinkPresence (s.ci.presence.erase c)) := by
  simp only [State.serveLogoff, custodianNo?_eq_some number, if_pos present]

/-- A list that empties from one custodian stops the window and leaves the context (R101, R104). -/
theorem State.shrinkPresence_of_last (last : s.ci.presence.length = 1) :
    s.shrinkPresence [] = { s with ci.presence := [], ci.window := s.ci.window.stop } := by
  simp only [State.shrinkPresence, last]
  rfl

/-- One that stays occupied keeps its window; a drop below two discards the context (R101, R123). -/
theorem State.shrinkPresence_of_some {after : List CustodianNo} (some_ : after ≠ [])
    (one : s.ci.presence.length = after.length + 1) :
    s.shrinkPresence after = { s with
      ci.presence := after, cec := if s.ci.presence.length = 2 then none else s.cec } := by
  have occupied : after.isEmpty = false := by simpa using some_
  have somebody : 1 ≤ after.length := List.length_pos_iff.mpr some_
  by_cases pair : s.ci.presence.length = 2
  · have single : after.length = 1 := by omega
    simp only [State.shrinkPresence, occupied, pair, single]
    rfl
  · have many : decide (after.length < 2) = false := decide_eq_false (by omega)
    simp only [State.shrinkPresence, occupied, many, Bool.and_false, if_neg pair]
    rfl

/-- No bit above bit 10 is set exactly in a value below 2^11. -/
theorem high_eq_zero_iff {enables : BitVec 16} :
    enables.extractLsb' 11 5 = 0 ↔ enables.toNat < 2 ^ 11 := by
  have zero : (0 : BitVec 5).toNat = 0 := rfl
  rw [← BitVec.toNat_inj, BitVec.extractLsb'_toNat, Nat.shiftRight_eq_div_pow, zero]
  omega

theorem State.serveEnables_of_good {enables : BitVec 16} (good : enables.extractLsb' 11 5 = 0) :
    s.serveEnables enables =
      served (s.withCi { s.ci with enables := enables.extractLsb' 0 11 }) := by
  have low : enables.setWidth 11 = enables.extractLsb' 0 11 := BitVec.eq_of_toNat_eq (by simp)
  rw [State.serveEnables, if_pos (high_eq_zero_iff.mp good), low]

theorem State.serveEnables_of_bad {enables : BitVec 16} (bad : enables.extractLsb' 11 5 ≠ 0) :
    s.serveEnables enables = unserved .badValue s :=
  if_neg fun small => bad (high_eq_zero_iff.mpr small)

theorem State.serveCancel_of_none (none : s.cec = none) : s.serveCancel = unserved .state s := by
  simp only [State.serveCancel, none]

theorem State.serveCancel_of_some {x : Ceremony} (standing : s.cec = some x) :
    s.serveCancel = served (s.withCec none) := by
  simp only [State.serveCancel, standing]

/-- A command of class one other than a read, served on the accepted state (R92, R93). -/
theorem State.commandRow_of_one {k : Command} {t : State} {status : ConsoleStatus} {r : Served}
    (takes : s.TakesWith 1) (one : k.presenceClass = .one) (unread : k.isRead = false)
    (other : k.enrols = false) (waits : (k.decidesAtTake || k.actsAtTake) = false)
    (serves : State.serve k 0 { s.windowRestarted with ci.port := .executing k } = some r)
    (outcome : r = { state := { t with ci.port := .executing k }, status := status, body := [] }) :
    s.commandRow k 0 = t.finish status [] := by
  subst outcome
  obtain ⟨reply, port⟩ := takes.1
  obtain ⟨decides, acts⟩ := Bool.or_eq_false_iff.mp waits
  have restarts : s.restartsWindow k = true := by
    rw [State.restartsWindow_iff, one, unread, State.freshPart_eq, other]
    exact ⟨nofun, nofun, nofun⟩
  rw [State.commandRow_of_served port (State.takeRefusal_of_takes takes one) decides acts
    ((congrArg (State.serve k 0) (State.accept_of_restarts restarts)).trans serves)]
  exact State.finish_of_desk _ t.ci.decided _ _ t

end ClassOne

/-- Settles O42: each command's cases, served on the accepted state. -/
theorem classOneCommandsTakeEffect : Obligations.ClassOneCommandsTakeEffect := by
  intro s takes
  have logoff {n t status r} (serves) (outcome) : exec (.logoff n) s = .next (State.finish status [] t) :=
    congrArg Host.Outcome.next (State.commandRow_of_one (k := .logoff n) (r := r) takes rfl rfl rfl rfl
      (congrArg some serves) outcome)
  have enable {enables t status r} (serves) (outcome) :
      exec (.setEventEnables enables) s = .next (State.finish status [] t) :=
    congrArg Host.Outcome.next (State.commandRow_of_one (k := .setEventEnables enables) (r := r) takes
      rfl rfl rfl rfl (congrArg some serves) outcome)
  have cancel {t status r} (serves) (outcome) :
      exec .cancelCeremony s = .next (State.finish status [] t) :=
    congrArg Host.Outcome.next (State.commandRow_of_one (k := .cancelCeremony) (r := r) takes
      rfl rfl rfl rfl (congrArg some serves) outcome)
  have bad {enables : BitVec 16} (bad : enables.extractLsb' 11 5 ≠ 0) :
      exec (.setEventEnables enables) s = .next (State.finish .badValue [] s.windowRestarted) :=
    enable (State.serveEnables_of_bad bad) rfl
  have good {enables : BitVec 16} (good : enables.extractLsb' 11 5 = 0) :
      exec (.setEventEnables enables) s = .next (State.finish .done []
        { s.windowRestarted with ci.enables := enables.extractLsb' 0 11 }) :=
    enable (State.serveEnables_of_good good) rfl
  refine ⟨fun n outside => logoff (State.serveLogoff_outside outside) rfl, fun n c number =>
    ⟨fun absent => logoff (State.serveLogoff_of_absent number absent) rfl, fun alone => ?_,
      fun present pair => ?_⟩, fun enables => ⟨bad, good, ?_⟩,
    fun none => cancel (State.serveCancel_of_none none) rfl,
    fun x standing => cancel (State.serveCancel_of_some standing) rfl⟩
  · have present : c ∈ s.ci.presence := alone ▸ List.mem_singleton_self c
    have empties : s.ci.presence.erase c = [] := by rw [alone, List.erase_cons_head]
    refine logoff (State.serveLogoff_of_present number present) ?_
    refine (congrArg served (congrArg (fun l => State.shrinkPresence l _) empties)).trans ?_
    exact congrArg served (State.shrinkPresence_of_last (by exact congrArg List.length alone))
  · have length := List.length_erase_of_mem present
    have occupied : s.ci.presence.erase c ≠ [] := List.ne_nil_of_length_pos (by omega)
    refine logoff (State.serveLogoff_of_present number present) ?_
    have one : s.ci.presence.length = (s.ci.presence.erase c).length + 1 := by omega
    exact congrArg served (State.shrinkPresence_of_some occupied (by exact one))
  · by_cases high : enables.extractLsb' 11 5 = 0
    · exact ⟨_, good high, State.attnLow_iff (by rw [State.finish_port]; nofun)⟩
    · exact ⟨_, bad high, State.attnLow_iff (by rw [State.finish_port]; nofun)⟩

end Sys2Proof.Machine

/-! The erase start by a command and by the emergency input (R171, R172, R177, R179), and
OPEN_CEREMONY (R114, R115). -/

namespace Sys2Proof.Machine

/-! ## The erase start (R171, Table 10-2) -/

section EraseStart

variable {s : State}

/-- The erase start as one whole next state, its parts in the order of Table 10-2. -/
theorem State.eraseStart_eq (cause : Cause) (s : State) : s.eraseStart cause = { s with
    ec := { position := some 0
            record := s.ec.record.afresh cause s.pwr.seconds s.tm.meshA.lastM s.tm.meshB.lastM }
    cc := CipherCore.idle
    su.inService := none
    channels := Vector.ofFn fun c => (s.channel c).eraseStart (s.endedFor c)
    lhi := s.lhi.eraseStart
    tm := s.tm.trip
    cec := none
    ci.port := s.ci.port.eraseStart
    ci.decided := none
    ci.presence := []
    ci.window.remaining := 0
    ci.window.running := false
    ci.expiryPending := false
    ci.challenge := none
    ci.flags := if s.tm.state = .learning then s.ci.flags ||| 0x100 else s.ci.flags
    pwr.supply := s.pwr.supply.eraseStart } := by
  by_cases learning : s.tm.state = .learning
  · have raised : (s.tm.state == .learning) = true := beq_iff_eq.mpr learning
    rw [if_pos learning]
    unfold State.eraseStart State.eraseRecord
    simp only [State.eraseService, State.eraseBegin, State.withEc, raised, State.raiseIf, if_true]
    rfl
  · have quiet : (s.tm.state == .learning) = false := beq_eq_false_iff_ne.mpr learning
    rw [if_neg learning]
    unfold State.eraseStart State.eraseRecord
    simp only [State.eraseService, State.eraseBegin, State.withEc, quiet, State.raiseIf,
      Bool.false_eq_true, if_false]
    rfl

theorem Supply.eraseStart_eq (x : Supply) : x.eraseStart =
    match x with
    | .restarting (.checking _) cold => .restarting .checked cold
    | supply => supply := by
  rcases x with _ | _ | ⟨_ | _ | _, _⟩ <;> rfl

theorem LineHighway.eraseStart_eq (l : LineHighway) : l.eraseStart = { l with
    tx := match l.highway, l.tx with
      | .running (.inFrame _ bit), some tx =>
        if tx.source = .body then
          some { tx with data := (tx.data >>> (bit + 1)) <<< (bit + 1) } else some tx
      | _, tx => tx } := by
  obtain ⟨highway, _, _, _, _, tx, _⟩ := l
  cases highway with
  | off | enabling => rfl
  | running position =>
    cases tx with
    | none => cases position <;> rfl
    | some tx =>
      obtain ⟨_, _, _, source⟩ := tx
      cases position <;> cases source <;> rfl

/-- The old replies of a channel as an erase start leaves them (R66). -/
theorem Channel.erasedReplies_eq (ch : Channel) : ch.erasedReplies =
    match ch.sent, ch.replies with
    | some n, r :: rest =>
      { r with body := r.body.mapIdx fun i w => if i + 1 < n then w else 0 } ::
        rest.map Reply.zeroized
    | _, replies => replies.map Reply.zeroized := by
  unfold Channel.erasedReplies
  cases ch.sent <;> cases ch.replies <;> rfl

/-- One channel at an erase start, by the request in service (R46, R66). -/
theorem Channel.eraseStart_eq (c : ChannelNo) (s : State) (ch : Channel) :
    ch.eraseStart (s.endedFor c) = { ch with
      transport := none
      state := .closed
      requests := []
      replies := ch.erasedReplies ++
        (match s.su.inService with
          | some r => if r.channel = c ∧ r.discard = false then
              [Reply.headerOnly kindDerive r.tag .zeroized] else []
          | none => []) ++
        ch.requests.map fun r => r.answer .zeroized
      admitted := ch.admitted - (match s.su.inService with
        | some r => if r.channel = c ∧ r.discard = true then 1 else 0
        | none => 0) } := by
  unfold State.endedFor
  cases s.su.inService with
  | none => rfl
  | some r =>
    by_cases own : r.channel = c
    · cases discard : r.discard <;> simp [Channel.eraseStart, own, discard]
    · simp [Channel.eraseStart, own]

end EraseStart

/-! ## The commands and edges that start one (R160, R172, R177) -/

section Triggers

variable {s : State}

/-- The state with the emergency input and its last level LOW (R160). -/
def State.emzLow (s : State) : State :=
  (s.withEss { s.ess with emzHigh := false }).withPins { s.pins with emzHigh := false }

theorem exec_emzFallingEdge (high : s.ess.emzHigh = true) :
    exec .emzFallingEdge s = .next (s.emzLow.trigger .emergency) :=
  if_pos high

theorem Port.eraseStart_of_idle {p : Port} (idle : ∀ c, p ≠ .executing c) : p.eraseStart = p := by
  cases p with
  | executing c => exact absurd rfl (idle c)
  | off | starting | ready => rfl

/-- Any other command in progress than ZEROIZE completes with ERASING (R93). -/
theorem Port.eraseStart_of_executing {c : Command} (other : c ≠ .zeroize) :
    (Port.executing c).eraseStart = .ready (some { status := .erasing, body := [] }) := by
  cases c with
  | zeroize => exact absurd rfl other
  | _ => rfl

theorem exec_zeroize (takes : s.TakesWith 1) : exec .zeroize s =
    .next (State.eraseStart .custodian { s.windowRestarted with ci.port := .executing .zeroize }) := by
  obtain ⟨reply, port⟩ := takes.1
  have restarts : s.restartsWindow .zeroize = true := rfl
  have taken : s.takeCommand .zeroize =
      State.eraseStart .custodian { s.windowRestarted with ci.port := .executing .zeroize } := by
    rw [State.takeCommand_of_accepted (State.takeRefusal_of_takes takes rfl),
      State.accept_of_restarts restarts]
    exact State.trigger_idle _ _ takes.2.1
  refine congrArg Host.Outcome.next ?_
  simp only [State.commandRow, port, taken, State.completeCommand, State.eraseStart_port]
  rfl

end Triggers

/-- Settles O45: the erase start as one next state, reached by each trigger; then the edges that start
none. -/
theorem zeroizeAndEdgesStartAnErase : Obligations.ZeroizeAndEdgesStartAnErase := by
  unfold Obligations.ZeroizeAndEdgesStartAnErase
  intro zeroized closedAt started low
  have starts (cause : Cause) (s : State) :
      s.eraseStart cause = started cause.set s.ci.port.eraseStart s := by
    have channels : (Vector.ofFn fun c => (s.channel c).eraseStart (s.endedFor c)) =
        Vector.ofFn (closedAt s) := by
      refine congrArg Vector.ofFn (funext fun c => ?_)
      have answers : ((s.channel c).requests.map fun r => r.answer .zeroized) =
          (s.channel c).requests.map fun r =>
            zeroized (match r.body with | .derive _ => 1 | .probe _ => 2 | .linkStatus => 3) r.tag := by
        refine List.map_congr_left fun r _ => ?_
        obtain ⟨tag, body⟩ := r
        cases body <;> rfl
      rw [Channel.eraseStart_eq, Channel.erasedReplies_eq, answers]
      rfl
    rw [State.eraseStart_eq, Supply.eraseStart_eq, LineHighway.eraseStart_eq, channels]
    rfl
  have falls {s : State} (high : s.ess.emzHigh = true) (quiet : s.ec.position = none) :
      exec .emzFallingEdge s = .next (low (started 0b001000 s.ci.port.eraseStart s)) := by
    rw [exec_emzFallingEdge high, State.trigger_idle .emergency s.emzLow quiet, starts]
    rfl
  refine ⟨fun s takes => ?_, fun s high quiet => ⟨fun c executing other => ?_, fun idle => ?_⟩,
    fun s high erasing => ?_, fun s low => if_neg (Bool.eq_false_iff.mp low), fun s => rfl⟩
  · rw [exec_zeroize takes, starts]
    rfl
  · rw [falls high quiet, executing, Port.eraseStart_of_executing other]
  · rw [falls high quiet, Port.eraseStart_of_idle idle]
  · rw [exec_emzFallingEdge high, State.trigger_erasing .emergency s.emzLow erasing]
    rfl

/-! ## The parameters of OPEN_CEREMONY (R114, Table 7-2) -/

section Parameters

variable {kind target generation components : Byte} {issuer : IssuerTag} {rights labelLength : Byte}
  {label : List Byte}

theorem issuerFits_iff : issuerFits issuer = true ↔ ¬(issuer = 0 ∨ issuer = 65535) := by
  simp [issuerFits]

theorem labelFits_iff (short : label.length ≤ 16) :
    labelFits label = true ↔ ¬∃ c ∈ label, c.toNat < 0x20 ∨ 0x7E < c.toNat := by
  rw [← Bool.not_eq_false, labelFits_eq_false_iff]
  exact not_congr (or_iff_right (Nat.not_lt.mpr short))

/-- The parameters that R114 refuses. -/
def BadOpening (kind target generation components : Byte) (issuer : IssuerTag) (labelLength : Byte)
    (label : List Byte) : Prop :=
  ¬(kind = 1 ∨ kind = 2 ∨ kind = 3) ∨ labelLength.toNat ≠ label.length ∨
    (kind ≠ 3 ∧ 95 < target.toNat) ∨ (kind = 3 ∧ 7 < target.toNat) ∨ generation = 0 ∨
    ¬(components = 2 ∨ components = 3) ∨
    (kind = 1 ∧ ((issuer = 0 ∨ issuer = 65535) ∨ ∃ c ∈ label, c.toNat < 0x20 ∨ 0x7E < c.toNat)) ∨
    (kind = 2 ∧ ((issuer = 0 ∨ issuer = 65535) ∨ label ≠ [])) ∨ (kind = 3 ∧ label ≠ [])

/-- What R114 asks of the target of each kind. -/
def BadTarget (kind target : Byte) (issuer : IssuerTag) (label : List Byte) : Prop :=
  ¬(kind = 1 ∨ kind = 2 ∨ kind = 3) ∨ (kind ≠ 3 ∧ 95 < target.toNat) ∨
    (kind = 3 ∧ 7 < target.toNat) ∨
    (kind = 1 ∧ ((issuer = 0 ∨ issuer = 65535) ∨ ∃ c ∈ label, c.toNat < 0x20 ∨ 0x7E < c.toNat)) ∨
    (kind = 2 ∧ ((issuer = 0 ∨ issuer = 65535) ∨ label ≠ [])) ∨ (kind = 3 ∧ label ≠ [])

theorem badOpening_iff : BadOpening kind target generation components issuer labelLength label ↔
    (labelLength.toNat ≠ label.length ∨ generation = 0 ∨
      ¬(components.toNat = 2 ∨ components.toNat = 3)) ∨ BadTarget kind target issuer label := by
  have two : components = 2 ↔ components.toNat = 2 := BitVec.toNat_eq
  have three : components = 3 ↔ components.toNat = 3 := BitVec.toNat_eq
  rw [BadOpening, BadTarget, two, three]
  exact iff_of_eq (by ac_rfl)

theorem ceremonyTarget?_of_other (other : ¬(kind = 1 ∨ kind = 2 ∨ kind = 3)) :
    ceremonyTarget? kind target issuer rights label = none := by
  have named (k : Byte) (same : kind.toNat = k.toNat) : kind = k := BitVec.eq_of_toNat_eq same
  unfold ceremonyTarget?
  split
  · next is => exact absurd (.inl (named 1 is)) other
  · next is => exact absurd (.inr (.inl (named 2 is))) other
  · next is => exact absurd (.inr (.inr (named 3 is))) other
  · rfl

theorem ceremonyTarget?_one : ceremonyTarget? 1 target issuer rights label =
    if issuerFits issuer && labelFits label then
      (entryIndex? target.toNat).map fun i => .newKey i issuer label rights
    else none := rfl

theorem ceremonyTarget?_two : ceremonyTarget? 2 target issuer rights label =
    if issuerFits issuer && label.isEmpty then
      (entryIndex? target.toNat).map fun i => .rollover i issuer
    else none := rfl

theorem ceremonyTarget?_three : ceremonyTarget? 3 target issuer rights label =
    if label.isEmpty then (channelNo? target.toNat).map .transport else none := rfl

theorem newKeyFits_iff (short : label.length ≤ 16) : (issuerFits issuer && labelFits label) = true ↔
    ¬((issuer = 0 ∨ issuer = 65535) ∨ ∃ c ∈ label, c.toNat < 0x20 ∨ 0x7E < c.toNat) := by
  rw [Bool.and_eq_true_iff, issuerFits_iff, labelFits_iff short, ← not_or]

theorem rolloverFits_iff : (issuerFits issuer && label.isEmpty) = true ↔
    ¬((issuer = 0 ∨ issuer = 65535) ∨ label ≠ []) := by
  rw [Bool.and_eq_true_iff, issuerFits_iff, List.isEmpty_iff, ← not_ne_iff (a := label), ← not_or]

/-- A target that R114 refuses is none. -/
theorem ceremonyTarget?_of_bad (short : label.length ≤ 16) (bad : BadTarget kind target issuer label) :
    ceremonyTarget? kind target issuer rights label = none := by
  rcases bad with other | ⟨notThree, high⟩ | ⟨rfl, high⟩ | ⟨rfl, bad⟩ | ⟨rfl, bad⟩ | ⟨rfl, named⟩
  · exact ceremonyTarget?_of_other other
  · by_cases known : kind = 1 ∨ kind = 2 ∨ kind = 3
    · rcases known with rfl | rfl | rfl
      · rw [ceremonyTarget?_one, entryIndex?_eq_none high, Option.map_none, ite_self]
      · rw [ceremonyTarget?_two, entryIndex?_eq_none high, Option.map_none, ite_self]
      · exact absurd rfl notThree
    · exact ceremonyTarget?_of_other known
  · rw [ceremonyTarget?_three, channelNo?_eq_none high, Option.map_none, ite_self]
  · exact if_neg fun fits => (newKeyFits_iff short).mp fits bad
  · exact if_neg fun fits => rolloverFits_iff.mp fits bad
  · exact if_neg fun empty => named (List.isEmpty_iff.mp empty)

theorem ceremonyTarget?_newKey {i : EntryIndex} (short : label.length ≤ 16)
    (good : ¬BadTarget 1 target issuer label) (index : target.toNat = i.val) :
    ceremonyTarget? 1 target issuer rights label = some (.newKey i issuer label rights) := by
  have fits := (newKeyFits_iff short).mpr fun bad =>
    good (.inr (.inr (.inr (.inl ⟨rfl, bad⟩))))
  rw [ceremonyTarget?_one, if_pos fits, entryIndex?_eq_some index]
  rfl

theorem ceremonyTarget?_rollover {i : EntryIndex} (good : ¬BadTarget 2 target issuer label)
    (index : target.toNat = i.val) :
    ceremonyTarget? 2 target issuer rights label = some (.rollover i issuer) := by
  have fits := rolloverFits_iff.mpr fun bad => good (.inr (.inr (.inr (.inr (.inl ⟨rfl, bad⟩)))))
  rw [ceremonyTarget?_two, if_pos fits, entryIndex?_eq_some index]
  rfl

theorem ceremonyTarget?_transport {c : ChannelNo} (good : ¬BadTarget 3 target issuer label)
    (number : target.toNat = c.val) :
    ceremonyTarget? 3 target issuer rights label = some (.transport c) := by
  have empty : label.isEmpty = true := by
    by_contra named
    exact good (.inr (.inr (.inr (.inr (.inr ⟨rfl, fun is => named (List.isEmpty_iff.mpr is)⟩)))))
  rw [ceremonyTarget?_three, if_pos empty, channelNo?_eq_some number]
  rfl

/-- A target that R114 does not refuse is one. -/
theorem exists_ceremonyTarget (short : label.length ≤ 16) (good : ¬BadTarget kind target issuer label) :
    ∃ t, ceremonyTarget? kind target issuer rights label = some t := by
  have known : kind = 1 ∨ kind = 2 ∨ kind = 3 := by
    by_contra other
    exact good (.inl other)
  rcases known with rfl | rfl | rfl
  · obtain ⟨i, index⟩ := exists_entryIndex fun high => good (.inr (.inl ⟨by decide, high⟩))
    exact ⟨_, ceremonyTarget?_newKey short good index⟩
  · obtain ⟨i, index⟩ := exists_entryIndex fun high => good (.inr (.inl ⟨by decide, high⟩))
    exact ⟨_, ceremonyTarget?_rollover good index⟩
  · have low : target.toNat < 8 := by
      by_contra high
      exact good (.inr (.inr (.inl ⟨rfl, Nat.not_lt.mp high⟩)))
    exact ⟨_, ceremonyTarget?_transport (c := ⟨target.toNat, low⟩) good rfl⟩

end Parameters

/-! ## The checks of OPEN_CEREMONY (R114, R115) -/

section Opening

variable {s : State} {kind target generation components : Byte} {issuer : IssuerTag}
  {rights labelLength : Byte} {label : List Byte}

theorem State.serveOpen_of_bad (short : label.length ≤ 16)
    (bad : BadOpening kind target generation components issuer labelLength label) :
    s.serveOpen kind target generation components issuer rights labelLength label =
      unserved .badValue s := by
  rw [badOpening_iff] at bad
  unfold State.serveOpen
  split
  · rfl
  · next sound => rw [ceremonyTarget?_of_bad short (bad.resolve_left sound)]

/-- The three state checks of R115, once the parameters pass. -/
theorem State.serveOpen_of_good {t : CeremonyTarget}
    (good : ¬BadOpening kind target generation components issuer labelLength label)
    (named : ceremonyTarget? kind target issuer rights label = some t) :
    s.serveOpen kind target generation components issuer rights labelLength label =
      if s.cec.isSome then unserved .state s
      else if s.tm.state ≠ .armed then unserved .notArmed s
      else if s.suitable t generation then
        served (s.withCec (some (Ceremony.opened t generation components.toNat)))
      else unserved .state s := by
  rw [badOpening_iff, not_or] at good
  unfold State.serveOpen
  rw [if_neg good.1, named]

end Opening

/-- Settles O44: the completion, the erase start that comes before it, and the checks in order. -/
theorem openCeremonyChecksInOrder : Obligations.OpenCeremonyChecksInOrder := by
  refine ⟨fun s c draw opens port => ⟨fun status decided => ?_, fun high quiet => ?_⟩, ?_⟩
  · obtain ⟨_, _, _, _, _, _, _, _, rfl⟩ := opens
    exact exec_commandComplete_of_decided port rfl decided
  · obtain ⟨_, _, _, _, _, _, _, _, rfl⟩ := opens
    refine ⟨s.emzLow.eraseStart .emergency, ?_, State.eraseStart_position .., State.eraseStart_cec ..,
      State.eraseStart_decided .., ?_⟩
    · rw [exec_emzFallingEdge high, State.trigger_idle .emergency s.emzLow quiet]
    · rw [State.eraseStart_port]
      exact (congrArg Port.eraseStart port).trans (Port.eraseStart_of_executing nofun)
  · intro s kind target generation components issuer rights labelLength label takes short command
      decides refused opened badIssuer bad
    obtain ⟨reply, port⟩ := takes.1
    let accepted : State := { s.windowRestarted with ci.port := .executing command }
    have settles {status base} (serves :
        accepted.serveOpen kind target generation components issuer rights labelLength label =
          { state := { base with ci.port := .executing command }, status := status, body := [] }) :
        decides status base := by
      have takes' : s.takeCommand command =
          { base with ci.port := .executing command, ci.decided := some status } := by
        rw [State.takeCommand_of_accepted (State.takeRefusal_of_two takes),
          State.accept_of_restarts (State.restartsWindow_of_two rfl rfl rfl)]
        exact congrArg (fun r : Served => r.state.withDecided (some r.status)) serves
      obtain ⟨row, taken⟩ := State.rows_of_decided port (fun _ => rfl) takes'
      exact ⟨(if_pos short).trans (congrArg Host.Outcome.next row), taken⟩
    have goodTarget (good : ¬bad) : ¬BadTarget kind target issuer label :=
      (not_or.mp fun is => good (badOpening_iff.mpr is)).2
    refine ⟨fun bad => settles (State.serveOpen_of_bad short bad), fun good standing => ?_,
      fun good free unarmed => ?_, fun good free armed => ?_⟩
    · obtain ⟨x, named⟩ := exists_ceremonyTarget (rights := rights) short (goodTarget good)
      refine settles ((State.serveOpen_of_good good named).trans (if_pos ?_))
      exact Option.isSome_iff_ne_none.mpr standing
    all_goals
      have noContext : ¬accepted.cec.isSome = true := fun is => Option.isSome_iff_ne_none.mp is free
    · obtain ⟨x, named⟩ := exists_ceremonyTarget (rights := rights) short (goodTarget good)
      refine settles ((State.serveOpen_of_good good named).trans ?_)
      rw [if_neg noContext, if_pos (by exact unarmed)]
      rfl
    · have decided {x} (named : ceremonyTarget? kind target issuer rights label = some x) :
          accepted.serveOpen kind target generation components issuer rights labelLength label =
            if s.suitable x generation then
              served (accepted.withCec (some (Ceremony.opened x generation components.toNat)))
            else unserved .state accepted := by
        rw [State.serveOpen_of_good good named, if_neg noContext, if_neg (not_not.mpr (by exact armed))]
        rfl
      have unsuitable {x} (named : ceremonyTarget? kind target issuer rights label = some x)
          (unfit : s.suitable x generation = false) : refused .state :=
        settles ((decided named).trans (if_neg (Bool.eq_false_iff.mp unfit)))
      have opens {x} (named : ceremonyTarget? kind target issuer rights label = some x)
          (fit : s.suitable x generation = true) : opened x :=
        settles ((decided named).trans (if_pos fit))
      refine ⟨fun one i index => ?_, fun two i index => ?_, fun three c number => ?_⟩
      · have named := ceremonyTarget?_newKey (rights := rights) short (one ▸ goodTarget good) index
        rw [← one] at named
        exact ⟨fun held => unsuitable named (congrArg not held),
          fun keyless => opens named (congrArg not keyless)⟩
      · have named := ceremonyTarget?_rollover (rights := rights) (two ▸ goodTarget good) index
        rw [← two] at named
        refine ⟨fun keyless => unsuitable named (State.suitable_rollover_of_keyless keyless),
          fun d suspended current previous held => ⟨fun unfit => ?_, fun own later => ?_⟩⟩
        · refine unsuitable named (Bool.eq_false_iff.mpr fun fits => unfit ?_)
          exact (State.suitable_rollover_iff held).mp fits
        · exact opens named ((State.suitable_rollover_iff held).mpr ⟨own, later⟩)
      · have named := ceremonyTarget?_transport (issuer := issuer) (rights := rights)
          (three ▸ goodTarget good) number
        rw [← three] at named
        refine ⟨fun ⟨g, standing, late⟩ => ?_, fun earlier => ?_⟩
        · refine unsuitable named (Bool.eq_false_iff.mpr fun fits => ?_)
          exact Nat.not_lt.mpr late (Channel.acceptsTransport_iff.mp fits g standing)
        · exact opens named (Channel.acceptsTransport_iff.mpr earlier)

end Sys2Proof.Machine

/-! The expiries (R99, R103), the battery result (R165, R166, R170), the lid samples (R158, R159) and the
timers of the main supply (R162, R163). -/

namespace Sys2Proof.Machine

/-! ## Expiries (R99, R103) -/

section Expiries

variable {s : State}

theorem exec_windowExpiry (running : s.ci.window.running = true)
    (ended : s.ci.window.remaining = 0) : exec .windowExpiry s = .next s.windowAtZero :=
  if_pos (by simp [running, ended])

theorem exec_challengeExpiry {x : Challenge} (standing : s.ci.challenge = some x) :
    exec .challengeExpiry s =
      .next (if s.pwr.seconds = x.drawnAt + 60 then { s with ci.challenge := none } else s) := by
  refine congrArg Host.Outcome.next ?_
  simp only [State.expireChallenge, standing, eq_comm (a := s.pwr.seconds)]
  rfl

end Expiries

/-- Settles O52: the window by the port, the challenge by its drawing reading. -/
theorem expiriesTakeEffect : Obligations.ExpiriesTakeEffect := by
  refine ⟨fun s running ended => ⟨fun executing => ?_, fun idle => ?_⟩,
    fun s x standing => ⟨fun expired => ?_, fun lives => ?_⟩⟩
  · rw [exec_windowExpiry running ended, State.windowAtZero_of_executing executing]
    rfl
  · have stopped : s.ci.window.stop = { s.ci.window with running := false } := by
      rw [PresenceWindow.stop, ← ended]
    rw [exec_windowExpiry running ended, State.windowAtZero_of_idle idle, State.expireWindow_eq,
      stopped]
  · rw [exec_challengeExpiry standing, if_pos expired]
  · rw [exec_challengeExpiry standing, if_neg lives]

/-! ## The battery result (R165, R166, R170) -/

section Battery

variable {s : State} {r : BatteryResult}

theorem State.keyMaterial_eq_false_iff : s.keyMaterial = false ↔ s.noKeys := by
  simp only [State.keyMaterial, Bool.or_eq_false_iff, List.any_eq_false, Vector.mem_toList_iff,
    Bool.not_eq_true, Option.isSome_eq_false_iff, Option.isNone_iff_eq_none, State.noKeys]
  refine and_congr ⟨fun all i => all _ (Vector.getElem_mem i.isLt), fun all e mem => ?_⟩
    ⟨fun all c => all _ (Vector.getElem_mem c.isLt), fun all ch mem => ?_⟩
  · obtain ⟨i, h, rfl⟩ := Vector.getElem_of_mem mem
    exact all ⟨i, h⟩
  · obtain ⟨c, h, rfl⟩ := Vector.getElem_of_mem mem
    exact all ⟨c, h⟩

theorem State.keyMaterial_iff : s.keyMaterial = true ↔ ¬s.noKeys := by
  rw [← State.keyMaterial_eq_false_iff, Bool.not_eq_false]

theorem State.judgeInHold_of_quiet (quiet : r.belowErase = false ∨ s.noKeys) :
    s.judgeInHold (some r) = s := by
  refine if_neg ?_
  rw [Bool.and_eq_true_iff, State.keyMaterial_iff]
  rintro ⟨below, keys⟩
  exact quiet.elim (fun above => Bool.false_ne_true (above.symm.trans below)) keys

theorem State.judgeInHold_of_flat (below : r.belowErase = true) (keys : ¬s.noKeys) :
    s.judgeInHold (some r) = s.trigger .battery :=
  if_pos (by rw [below, State.keyMaterial_iff.mpr keys, Bool.true_and])

theorem State.judgeBattery_of_power (power : s.pwr.supply ≠ .hold) :
    s.judgeBattery r = s.raiseIf r.belowWarning .batteryWeak := by
  unfold State.judgeBattery
  split
  · exact absurd ‹_› power
  all_goals rfl

theorem State.judgeBattery_of_hold (hold : s.pwr.supply = .hold) :
    s.judgeBattery r = s.judgeInHold (some r) := by
  simp only [State.judgeBattery, hold]

/-- The state with the result that a sample of VBAT latches (R165). -/
def State.latched (vbat : Nat) (s : State) : State :=
  s.withEss { s.ess with sample := none, result := some (latchResult s.ess.warning vbat) }

theorem exec_batterySampleLatch {vbat elapsed : Nat} (sampling : s.ess.sample = some elapsed) :
    exec (.batterySampleLatch vbat) s =
      .next ((s.latched vbat).judgeBattery (latchResult s.ess.warning vbat)) := by
  simp only [exec, execBatterySampleLatch, sampling]
  rfl

end Battery

/-- Settles O53: the latched result, judged by the supply state and the key material. -/
theorem batteryResultIsJudged : Obligations.BatteryResultIsJudged := by
  intro s vbat elapsed sampling weak flat latched
  have runs := exec_batterySampleLatch (vbat := vbat) sampling
  refine ⟨fun power => ?_, fun hold quiet => ?_, fun hold below keys => ?_⟩
  · rw [runs, State.judgeBattery_of_power (by exact power)]
    rfl
  · rw [runs, State.judgeBattery_of_hold (by exact hold),
      State.judgeInHold_of_quiet (by exact quiet)]
    rfl
  · rw [State.judgeBattery_of_hold (by exact hold),
      State.judgeInHold_of_flat (by exact below) (by exact keys)] at runs
    refine ⟨fun erasing => ?_, fun idle => ?_⟩
    · rw [runs, State.trigger_erasing _ _ (by exact erasing)]
      rfl
    · rw [State.trigger_idle _ _ (by exact idle)] at runs
      refine ⟨_, runs, ?_⟩
      rw [State.eraseStart_eq]
      refine ⟨rfl, rfl, rfl, rfl, rfl, fun c => ?_⟩
      simp [State.channel, Channel.eraseStart_eq]

/-! ## Lid samples (R158, R159) -/

section Lids

variable {s : State} {a b : Bool}

theorem Supply.lidRun_eq (x : Supply) : x.lidRun = match x with | .hold => 2 | _ => 8 := by
  cases x <;> rfl

theorem Supply.lidInterval_eq (x : Supply) :
    x.lidInterval = match x with | .hold => 512 | _ => 32 := by
  cases x <;> rfl

theorem Lid.sample_eq (run : Nat) (isOpen : Bool) (l : Lid) : l.sample run isOpen =
    if isOpen = l.isOpen then { l with disagree := 0 }
    else if l.disagree + 1 < run then { l with disagree := l.disagree + 1 }
    else { isOpen := isOpen, disagree := 0 } := by
  simp only [Lid.sample, ← Nat.not_lt, ite_not]

theorem lidOpened_iff {before after : Lid} :
    lidOpened before after = true ↔ before.isOpen = false ∧ after.isOpen = true := by
  simp [lidOpened]

theorem State.lidReport_of_armed (armed : s.tm.state = .armed) : s.lidReport = s.trigger .lid := by
  simp only [State.lidReport, armed]

theorem State.lidReport_of_learning (learning : s.tm.state = .learning) :
    s.lidReport = s.failLearning := by
  simp only [State.lidReport, learning]

theorem State.reports_of_closed (closed : ¬(a = true ∨ b = true)) :
    (s.reportIf a).reportIf b = s := by
  obtain ⟨first, second⟩ := not_or.mp closed
  rw [State.reportIf, State.reportIf, if_neg first, if_neg second]

theorem State.reports_of_other (armed : s.tm.state ≠ .armed) (learning : s.tm.state ≠ .learning) :
    (s.reportIf a).reportIf b = s := by
  have same := State.lidReport_of_other armed learning
  have one (x : Bool) : s.reportIf x = s := by rw [State.reportIf, same, ite_self]
  rw [one, one]

/-- Of two lids that open the second report finds what the first left (assumption log 23). -/
theorem State.reports_of_opens (opens : a = true ∨ b = true)
    (armed : s.lidReport.tm.state ≠ .armed) (learning : s.lidReport.tm.state ≠ .learning) :
    (s.reportIf a).reportIf b = s.lidReport := by
  have settled := State.lidReport_of_other armed learning
  cases a with
  | true => exact (congrArg (fun x => ite _ x _) settled).trans (ite_self _)
  | false => exact if_pos (opens.resolve_left Bool.false_ne_true)

end Lids

/-- Settles O56: the two debounced lids, then the report by the monitor's state. -/
theorem lidSamplesAreDebounced : Obligations.LidSamplesAreDebounced := by
  intro s aOpen bOpen run sampled a b opens noted
  have runs : exec (.lidSample aOpen bOpen) s =
      .next ((noted.reportIf (lidOpened s.ess.lidA a)).reportIf (lidOpened s.ess.lidB b)) := by
    simp only [exec, execLidSample, Supply.lidRun_eq, Lid.sample_eq]
    rfl
  have reported : (lidOpened s.ess.lidA a = true ∨ lidOpened s.ess.lidB b = true) ↔ opens :=
    or_congr lidOpened_iff lidOpened_iff
  refine ⟨Supply.lidInterval_eq _, fun quiet => ?_, fun opened learning => ?_,
    fun opened armed idle => ?_⟩
  · rw [runs]
    rcases quiet with closed | unarmed | tripped
    · rw [State.reports_of_closed (mt reported.mp closed)]
    · rw [State.reports_of_other (by simp [noted, unarmed]) (by simp [noted, unarmed])]
    · rw [State.reports_of_other (by simp [noted, tripped]) (by simp [noted, tripped])]
  · have fails : noted.lidReport = noted.failLearning := State.lidReport_of_learning learning
    have unarmed : noted.lidReport.tm.state = .unarmed := congrArg (·.tm.state) fails
    rw [runs, State.reports_of_opens (reported.mpr opened) (by simp [unarmed]) (by simp [unarmed]),
      fails]
    rfl
  · have trips : noted.lidReport = noted.eraseStart .lid :=
      (State.lidReport_of_armed (s := noted) armed).trans (State.trigger_idle .lid noted idle)
    have tripped : noted.lidReport.tm.state = .tripped := by
      rw [trips, State.eraseStart_tm]
      rfl
    refine ⟨_, runs, ?_⟩
    rw [State.reports_of_opens (reported.mpr opened) (by simp [tripped]) (by simp [tripped]), trips,
      State.eraseStart_eq]
    exact ⟨rfl, rfl, rfl, rfl, rfl, rfl, rfl⟩

/-! ## The main supply (R162, R163, R183) -/

section MainSupply

variable {s : State} {pins : SupplyPins}

theorem PowerController.withdraw_eq (kind : HeldRequest) (p : PowerController) :
    p.withdraw kind = { p with held := if p.held = kind then .none else p.held } := by
  unfold PowerController.withdraw
  split <;> rfl

/-- The state with the levels that a row of the main supply brings (assumption log 28). -/
def State.underPins (pins : SupplyPins) (s : State) : State :=
  s.withPins { s.pins with vdd := pins.vdd, adr := pins.adr }

theorem State.vddMoves_of_power (power : s.pwr.supply ≠ .hold) :
    s.vddMoves pins = (s.underPins pins).lowTimerFollows pins.vdd := by
  unfold State.vddMoves
  dsimp only
  split
  · rfl
  · rfl
  · exact absurd ‹_› power

theorem State.vddMoves_of_hold (hold : s.pwr.supply = .hold) :
    s.vddMoves pins = (s.underPins pins).returnTimerFollows pins.vdd := by
  simp only [State.vddMoves, State.withPins_pwr, hold]
  rfl

/-- A timer whose condition holds: it starts if it stood stopped. -/
def Timer.started : Timer → Timer
  | .stopped => .running 0
  | .running e => .running e
  | .atLimit => .atLimit

theorem Timer.started_eq (t : Timer) :
    t.started = match t with | .stopped => .running 0 | timer => timer := by
  cases t <;> rfl

theorem State.lowTimerFollows_of_below {vdd : Nat} (below : vdd < criterionMv s.ess.criterion) :
    s.lowTimerFollows vdd = s.withEss { s.ess with lowTimer := s.ess.lowTimer.started } := by
  unfold State.lowTimerFollows
  rw [if_pos below]
  split <;> next timer => rw [timer, Timer.started] <;> simp only [← timer] <;> rfl

theorem State.returnTimerFollows_of_above {vdd : Nat} (above : returnMv s.ess.criterion < vdd) :
    s.returnTimerFollows vdd = s.withEss { s.ess with returnTimer := s.ess.returnTimer.started } := by
  unfold State.returnTimerFollows
  rw [if_pos above]
  split <;> next timer => rw [timer, Timer.started] <;> simp only [← timer] <;> rfl

/-- At or above the criterion the low timer stops, and a hold request sent is withdrawn (R162). -/
theorem State.lowTimerFollows_of_above {vdd : Nat} (above : criterionMv s.ess.criterion ≤ vdd) :
    s.lowTimerFollows vdd =
      (s.withEss { s.ess with lowTimer := .stopped, holdSent := false }).withPwr { s.pwr with
        held := if s.ess.holdSent then if s.pwr.held = .hold then .none else s.pwr.held
          else s.pwr.held } := by
  rw [State.lowTimerFollows, if_neg (Nat.not_lt.mpr above), PowerController.withdraw_eq]
  cases s.ess.holdSent <;> rfl

/-- At or below the return level the return timer stops, and a restart request sent is withdrawn
(R163). -/
theorem State.returnTimerFollows_of_below {vdd : Nat} (below : vdd ≤ returnMv s.ess.criterion) :
    s.returnTimerFollows vdd =
      (s.withEss { s.ess with returnTimer := .stopped }).withPwr { s.pwr with
        held := if s.ess.returnTimer = .atLimit then
            if s.pwr.held = .restart then .none else s.pwr.held
          else s.pwr.held } := by
  rw [State.returnTimerFollows, if_neg (Nat.not_lt.mpr below), PowerController.withdraw_eq]
  dsimp only
  split <;> rfl

end MainSupply

/-- Settles O57: each row of VDD in the supply state that keeps its timer. -/
theorem timersFollowTheMainSupply : Obligations.TimersFollowTheMainSupply := by
  intro s vdd adr criterion withdraw
  refine ⟨fun power below => ?_, fun power above => ?_, fun hold above => ?_, fun hold below => ?_⟩
  · have runs : exec (.vddBelowCriterion ⟨vdd, adr⟩) s = .next (s.vddMoves ⟨vdd, adr⟩) :=
      if_pos below
    rw [runs, State.vddMoves_of_power power, State.lowTimerFollows_of_below (by exact below),
      Timer.started_eq]
    rfl
  · have runs : exec (.vddAtCriterion ⟨vdd, adr⟩) s = .next (s.vddMoves ⟨vdd, adr⟩) := if_pos above
    rw [runs, State.vddMoves_of_power power, State.lowTimerFollows_of_above (by exact above)]
    rfl
  · have runs : exec (.vddAboveReturnLevel ⟨vdd, adr⟩) s = .next (s.vddMoves ⟨vdd, adr⟩) :=
      if_pos above
    rw [runs, State.vddMoves_of_hold hold, State.returnTimerFollows_of_above (by exact above),
      Timer.started_eq]
    rfl
  · have runs : exec (.vddAtReturnLevel ⟨vdd, adr⟩) s = .next (s.vddMoves ⟨vdd, adr⟩) := if_pos below
    rw [runs, State.vddMoves_of_hold hold, State.returnTimerFollows_of_below (by exact below)]
    rfl

end Sys2Proof.Machine

/-! A completed conversion: its reading, the evaluation in ARMED and the learning (R138, R140, R141,
R143 to R151). -/

namespace Sys2Proof.Machine

/-! ## The reading and what it leaves in the monitor (R138, R140, R144) -/

section Readings

variable {s : State} {m : Mesh} {n : Nat} {r : MeshRecord} {tm : TamperMonitor}

theorem Conversion.reading_eq (cv : Conversion) (crossing : Nat) :
    let ends := if crossing ≤ cv.reached then cv.reached else crossing
    cv.reading crossing = if ends ≤ 2 * cv.runUpCount then ends else 2 * cv.runUpCount := by
  rw [Conversion.reading, max_comm, max_def, min_def]

theorem Mesh.other_eq (m : Mesh) : m.other = match m with | .a => .b | .b => .a := by
  cases m <;> rfl

theorem Mesh.other_other (m : Mesh) : m.other.other = m := by
  cases m <;> rfl

/-- The next NORMAL conversion is on the other mesh (R140). -/
theorem TamperMonitor.afterConversion_of_normal (schedule : tm.schedule = .normal) :
    tm.afterConversion m = { tm with
      conversion := some (Conversion.start m.other tm.runUpCount), nextMesh := m } := by
  simp only [TamperMonitor.afterConversion, schedule, TamperMonitor.begin, Mesh.other_other]

/-- After a HOLD conversion the converter idles (R141). -/
theorem TamperMonitor.afterConversion_of_hold (schedule : tm.schedule = .hold) :
    tm.afterConversion m = { tm with conversion := none, nextMesh := m.other } := by
  simp only [TamperMonitor.afterConversion, schedule]

theorem exec_holdConversionStart (schedule : s.tm.schedule = .hold)
    (idle : s.tm.conversion = none) : exec .holdConversionStart s =
      .next (s.withTm (s.tm.begin s.tm.nextMesh 512)) := by
  simp only [exec, execHoldConversionStart, schedule, idle]
  rfl

/-- The monitor after a conversion on a mesh, with a reading noted in that mesh's record. -/
def TamperMonitor.noted (m : Mesh) (n : Nat) (r : MeshRecord) (tm : TamperMonitor) : TamperMonitor :=
  (tm.afterConversion m).setMesh m { r with lastM := n, lastValid := true }

theorem TamperMonitor.record_afterConversion :
    (tm.record m n).afterConversion m = tm.noted m n (tm.mesh m) := by
  obtain ⟨_, _, _, _, _, _, _, _, schedule, _, _⟩ := tm
  cases m <;> cases schedule <;> rfl

theorem TamperMonitor.noted_mesh :
    (tm.noted m n r).mesh m = { r with lastM := n, lastValid := true } := by
  cases m <;> rfl

/-- A record noted after another takes its place. -/
theorem TamperMonitor.noted_setMesh {r' : MeshRecord} :
    (tm.noted m n r).setMesh m { r' with lastM := n, lastValid := true } = tm.noted m n r' := by
  cases m <;> rfl

theorem TamperMonitor.noted_keeps (m : Mesh) (n : Nat) (r : MeshRecord) (tm : TamperMonitor) :
    (tm.noted m n r).state = tm.state ∧ (tm.noted m n r).window = tm.window ∧
      (tm.noted m n r).strikeLimit = tm.strikeLimit ∧ (tm.noted m n r).drift = tm.drift ∧
      (tm.noted m n r).learning = tm.learning := by
  unfold TamperMonitor.noted TamperMonitor.afterConversion
  cases tm.schedule <;> cases m <;> exact ⟨rfl, rfl, rfl, rfl, rfl⟩

/-- The state with a reading noted in its monitor. -/
def State.noted (m : Mesh) (n : Nat) (r : MeshRecord) (s : State) : State :=
  s.withTm (s.tm.noted m n r)

theorem State.completeConversion_eq (cv : Conversion) (crossing : Nat) :
    s.completeConversion cv crossing =
      (s.noted cv.mesh (normalise cv.runUpCount (cv.reading crossing)) (s.tm.mesh cv.mesh)).takeReading
        cv.mesh (normalise cv.runUpCount (cv.reading crossing)) := by
  rw [State.completeConversion, TamperMonitor.record_afterConversion]
  rfl

theorem exec_conversionComplete {cv : Conversion} {crossing : Nat}
    (running : s.tm.conversion = some cv) :
    exec (.conversionComplete crossing) s = .next (s.completeConversion cv crossing) := by
  simp only [exec, execConversionComplete, running]

/-! ### By the monitor's state (Table 8-2) -/

theorem State.takeReading_of_resting (resting : s.tm.state = .unarmed ∨ s.tm.state = .tripped) :
    s.takeReading m n = s := by
  rcases resting with state | state <;> simp only [State.takeReading, state]

theorem State.takeReading_of_armed (armed : s.tm.state = .armed) :
    s.takeReading m n = s.evaluate m n := by
  simp only [State.takeReading, armed]

theorem State.takeReading_of_learning (learning : s.tm.state = .learning) :
    s.takeReading m n = s.learnReading m n := by
  simp only [State.takeReading, learning]

end Readings

/-! ## Evaluation (R145 to R148) -/

section Evaluation

variable {s : State} {m : Mesh} {n window limit : Nat} {r : MeshRecord}

theorem outOfRange_iff : outOfRange n = true ↔ n = 8192 ∨ n < 64 := by
  rw [outOfRange, Bool.or_eq_true_iff, beq_iff_eq, decide_eq_true_iff]
  rfl

theorem distance_eq (n b : Nat) : distance n b = if n ≤ b then b - n else n - b := by
  unfold distance
  split <;> omega

/-- The baseline before it is limited to the band (R147). -/
theorem driftStep_eq (n b : Nat) : driftStep n b =
    if b ≤ n then b + distance n b / 16 else b - distance n b / 16 := by
  unfold driftStep distance
  split
  · next above => rw [Nat.sub_eq_zero_of_le above, Nat.add_zero]
  · next below => rw [Nat.sub_eq_zero_of_le (Nat.le_of_not_le below), Nat.zero_add]

theorem nextBaseline_eq (drift : Bool) (window learned n b : Nat) :
    nextBaseline drift window learned n b =
      let moved := if drift = true ∧ distance n b ≤ window / 4 then
          if b ≤ n then b + distance n b / 16 else b - distance n b / 16
        else b
      if learned + window < moved then learned + window
      else if moved + window < learned then learned - window
      else moved := by
  simp only [nextBaseline, bandLimit_eq, driftStep_eq, Bool.and_eq_true_iff, decide_eq_true_iff]

theorem judge_of_cut (cut : n = 8192 ∨ n < 64) : judge window limit n r = .cut :=
  if_pos (outOfRange_iff.mpr cut)

theorem judge_of_far (least : 64 ≤ n) (whole : n ≠ 8192) (far : window < distance n r.baseline) :
    judge window limit n r = .strike (decide (limit ≤ r.strikes + 1)) := by
  have inRange : ¬outOfRange n = true := by
    rw [outOfRange_iff]
    omega
  rw [judge, if_neg inRange, if_pos far]

theorem judge_of_near (least : 64 ≤ n) (whole : n ≠ 8192) (near : distance n r.baseline ≤ window) :
    judge window limit n r = .within := by
  have inRange : ¬outOfRange n = true := by
    rw [outOfRange_iff]
    omega
  rw [judge, if_neg inRange, if_neg (Nat.not_lt.mpr near)]

theorem MeshRecord.judged_noted {v : Verdict} {drift : Bool} :
    ({ r with lastM := n, lastValid := true } : MeshRecord).judged v drift window n =
      { r.judged v drift window n with lastM := n, lastValid := true } := by
  cases v <;> rfl

/-- What follows a verdict once the record is judged (R145 to R148). -/
def State.follow (m : Mesh) (v : Verdict) (s : State) : State :=
  match v with
  | .cut => s.trigger m.cause
  | .strike trips =>
    let t := s.raiseEvent .tamperStrike
    if trips then t.trigger m.cause else t
  | .within => s

/-- An evaluation of a noted reading, by its verdict. -/
theorem State.evaluate_noted {v : Verdict} (judged : judge s.tm.window s.tm.strikeLimit n r = v) :
    (s.noted m n r).evaluate m n =
      (s.noted m n (r.judged v s.tm.drift s.tm.window n)).follow m v := by
  obtain ⟨-, window, limit, drift, -⟩ := s.tm.noted_keeps m n r
  have follows (u : State) : u.evaluate m n =
      let v := judge u.tm.window u.tm.strikeLimit n (u.tm.mesh m)
      (u.withTm (u.tm.setMesh m ((u.tm.mesh m).judged v u.tm.drift u.tm.window n))).follow m v :=
    rfl
  have same : judge s.tm.window s.tm.strikeLimit n { r with lastM := n, lastValid := true } = v :=
    judged
  simp only [follows, State.noted, State.withTm_tm, window, limit, drift, TamperMonitor.noted_mesh, same,
    MeshRecord.judged_noted, TamperMonitor.noted_setMesh]
  rfl

/-- A trip of an ARMED monitor with no erase in progress (R148, R171). -/
theorem State.trigger_of_armed (cause : Cause) (armed : s.tm.state = .armed)
    (idle : s.ec.position = none) :
    (s.trigger cause).tm = { s.tm with state := .tripped, learning := none } ∧
      (s.trigger cause).kt = s.kt ∧ (s.trigger cause).ci.flags = s.ci.flags ∧
      (s.trigger cause).ec.position = some 0 ∧ (s.trigger cause).ec.record.causes = cause.set := by
  have other : s.tm.state ≠ .learning := by simp [armed]
  rw [State.trigger_idle cause s idle, State.eraseStart_eq, if_neg other]
  exact ⟨rfl, rfl, rfl, rfl, rfl⟩

theorem Mesh.cause_set (m : Mesh) :
    m.cause.set = match m with | .a => 0b000001 | .b => 0b000010 := by
  cases m <;> rfl

end Evaluation

/-- Settles O54: the hold conversion's start, then a completed conversion by the monitor's state and the
verdict on its reading. -/
theorem readingsAreEvaluated : Obligations.ReadingsAreEvaluated := by
  unfold Obligations.ReadingsAreEvaluated
  constructor
  · intro s schedule idle
    rw [exec_holdConversionStart schedule idle, TamperMonitor.begin, Mesh.other_eq]
    rfl
  intro s cv crossing running other reached ends m old next recorded run trips distance moved band
  have reading : normalise cv.runUpCount (cv.reading crossing) = m := by
    rw [Conversion.reading_eq]
    rfl
  have notes (r : MeshRecord) : s.noted cv.mesh m r = recorded r := by
    have after : s.withTm (s.tm.afterConversion cv.mesh) = next := by
      have swaps : cv.mesh.other = other := Mesh.other_eq _
      dsimp only [next]
      split
      · next schedule =>
        rw [TamperMonitor.afterConversion_of_normal schedule, swaps]
        rfl
      · next schedule =>
        rw [TamperMonitor.afterConversion_of_hold schedule, swaps]
        rfl
    have monitor : s.tm.afterConversion cv.mesh = next.tm := congrArg State.tm after
    simp only [State.noted, TamperMonitor.noted, monitor, recorded]
    rw [← after]
    rfl
  have runs : run = .next ((s.noted cv.mesh m old).takeReading cv.mesh m) := by
    rw [← reading]
    exact (exec_conversionComplete running).trans
      (congrArg Host.Outcome.next (State.completeConversion_eq cv crossing))
  clear_value m
  have state (r : MeshRecord) : (s.noted cv.mesh m r).tm.state = s.tm.state :=
    (s.tm.noted_keeps cv.mesh m r).1
  refine ⟨fun resting => ?_, fun armed idle => ?_⟩
  · rw [runs, State.takeReading_of_resting (by rwa [state]), notes]
  rw [State.takeReading_of_armed ((state _).trans armed)] at runs
  have away : Machine.distance m old.baseline = distance := distance_eq _ _
  refine ⟨fun cut => ?_, fun whole least => ⟨fun far => ⟨fun few => ?_, fun many => ?_⟩,
    fun near => ?_⟩⟩
  · rw [State.evaluate_noted (judge_of_cut cut)] at runs
    obtain ⟨tm, kt, flags, position, causes⟩ :=
      State.trigger_of_armed cv.mesh.cause ((state old).trans armed) idle
    exact ⟨_, runs, tm.trans (by rw [notes]), kt, flags,
      fun _ => ⟨position, causes.trans (Mesh.cause_set _)⟩⟩
  · rw [State.evaluate_noted (judge_of_far least whole (away.symm ▸ far)),
      decide_eq_false (Nat.not_le.mpr few)] at runs
    rw [runs, ← notes]
    rfl
  · rw [State.evaluate_noted (judge_of_far least whole (away.symm ▸ far)), decide_eq_true many]
      at runs
    let struck := s.noted cv.mesh m { old with strikes := old.strikes + 1 }
    obtain ⟨tm, kt, flags, position, causes⟩ := State.trigger_of_armed
      (s := struck.raiseEvent .tamperStrike) cv.mesh.cause ((state _).trans armed) idle
    refine ⟨_, runs, tm.trans ?_, kt, flags, fun _ => ⟨position, causes.trans (Mesh.cause_set _)⟩⟩
    rw [← notes]
    rfl
  · have limited : nextBaseline s.tm.drift s.tm.window old.learned m old.baseline = band := by
      simp only [nextBaseline_eq, away]
      rfl
    rw [State.evaluate_noted (judge_of_near least whole (away.symm ▸ near))] at runs
    rw [← limited, ← notes]
    exact runs

/-! ## Learning (R149 to R151) -/

section Learning

variable {s : State} {m : Mesh} {n : Nat} {l : Learning} {t : Tally}

theorem Tally.add_eq (n : Nat) (t : Tally) : t.add n =
    { count := t.count + 1, sum := t.sum + n
      least := some (match t.least with | none => n | some x => if n ≤ x then n else x)
      greatest := some (match t.greatest with | none => n | some x => if n ≤ x then x else n) } := by
  unfold Tally.add
  cases t.least <;> cases t.greatest <;> simp [min_def, max_def]

theorem Learning.setTally_eq (fresh : l.begunBefore = false) : l.setTally m t =
    { begunBefore := false
      a := match m with | .a => t | .b => l.a
      b := match m with | .a => l.b | .b => t } := by
  rw [← fresh]
  cases m <;> rfl

theorem Learning.complete_iff : l.complete = true ↔ 8 ≤ l.a.count ∧ 8 ≤ l.b.count := by
  rw [Learning.complete, Bool.and_eq_true_iff, decide_eq_true_iff, decide_eq_true_iff]
  rfl

variable (learning : s.tm.learning = some l)

include learning

theorem State.learnReading_of_begunBefore (begun : l.begunBefore = true) :
    s.learnReading m n =
      s.withTm { s.tm with learning := some { l with begunBefore := false } } := by
  simp only [State.learnReading, learning, begun, if_true]

theorem State.learnReading_of_failing (fresh : l.begunBefore = false)
    (fails : (n = 8192 ∨ n < 64) ∨ s.tm.window < ((l.tally m).add n).spread) :
    s.learnReading m n = s.failLearning := by
  rw [← outOfRange_iff, ← decide_eq_true_iff (p := _ < _), ← Bool.or_eq_true_iff] at fails
  simp only [State.learnReading, learning, fresh, fails, if_true, Bool.false_eq_true, if_false]

theorem State.learnReading_of_taken (fresh : l.begunBefore = false)
    (taken : ¬((n = 8192 ∨ n < 64) ∨ s.tm.window < ((l.tally m).add n).spread)) :
    s.learnReading m n =
      let l' := l.setTally m ((l.tally m).add n)
      if l'.complete then (s.withTm (s.tm.succeed l')).raiseEvent .armResult
      else s.withTm { s.tm with learning := some l' } := by
  rw [← outOfRange_iff, ← decide_eq_true_iff (p := _ < _), ← Bool.or_eq_true_iff] at taken
  simp only [State.learnReading, learning, fresh, taken, Bool.false_eq_true, if_false]

end Learning

/-- Settles O55: a reading in LEARNING, by the record's mark, the failures and the counts. -/
theorem learningTakesItsReadings : Obligations.LearningTakesItsReadings := by
  intro s cv crossing l running state learning reached ends m run recorded old least greatest tally
    a b learned
  have reading : normalise cv.runUpCount (cv.reading crossing) = m := by
    rw [Conversion.reading_eq]
    rfl
  let u : State := s.withTm recorded
  have kept : u.tm.state = .learning ∧ u.tm.window = s.tm.window ∧ u.tm.learning = some l := by
    have noted : u.tm = s.tm.noted cv.mesh m (s.tm.mesh cv.mesh) :=
      TamperMonitor.record_afterConversion
    obtain ⟨same, window, -, -, record⟩ := s.tm.noted_keeps cv.mesh m (s.tm.mesh cv.mesh)
    rw [noted]
    exact ⟨same.trans state, window, record.trans learning⟩
  obtain ⟨still, window, record⟩ := kept
  have runs : run = .next (u.learnReading cv.mesh m) := by
    rw [← State.takeReading_of_learning still]
    refine (exec_conversionComplete running).trans ?_
    rw [State.completeConversion, reading]
    rfl
  clear_value m
  have added : (l.tally cv.mesh).add m = tally := Tally.add_eq _ _
  have spread : u.tm.window < ((l.tally cv.mesh).add m).spread ↔
      least + s.tm.window < greatest := by
    rw [added, window]
    change s.tm.window < greatest - least ↔ _
    omega
  refine ⟨fun begun => ?_, fun fresh => ⟨fun fails => ?_, fun whole most inside => ?_⟩⟩
  · rw [runs, State.learnReading_of_begunBefore record begun]
    rfl
  · rw [runs, State.learnReading_of_failing record fresh
      (by rw [spread, or_assoc]; exact fails)]
    rfl
  · have set : l.setTally cv.mesh tally = { begunBefore := false, a := a, b := b } :=
      Learning.setTally_eq fresh
    have taken : ¬((m = 8192 ∨ m < 64) ∨ u.tm.window < ((l.tally cv.mesh).add m).spread) := by
      rw [spread]
      omega
    rw [State.learnReading_of_taken record fresh taken, added, set] at runs
    refine ⟨fun few => ?_, fun enoughA enoughB => ?_⟩
    · rw [runs]
      have open' : ¬({ begunBefore := false, a := a, b := b } : Learning).complete = true := by
        rw [Learning.complete_iff]
        exact fun ⟨enoughA, enoughB⟩ =>
          few.elim (Nat.not_lt.mpr enoughA) (Nat.not_lt.mpr enoughB)
      exact congrArg Host.Outcome.next (if_neg open')
    · rw [runs]
      exact congrArg Host.Outcome.next (if_pos (Learning.complete_iff.mpr ⟨enoughA, enoughB⟩))

end Sys2Proof.Machine

/-! One step: the front command on the queue's rest, or the counts of an empty queue (assumption
log 1). -/

namespace Sys2Proof.Machine

/-! ## What one unit of each count does (R38, R69, R82, R138, R162, R163, R165) -/

section Counts

/-- The ENABLING count or a bit period of the highway (R69, R82). -/
theorem LineHighway.tick_eq (pins : Pins) (l : LineHighway) :
    let waits (slot bit : Nat) : Prop :=
      bit = 0 ∨ (bit = 31 ∧ l.tx = none ∧ l.active.channel slot ≠ none)
    let level (bit : Nat) : Word := if pins.hrd.getLsbD bit then 1#32 <<< bit else 0
    l.tick pins = { l with
      highway := match l.highway with
        | .enabling n => .enabling (if n + 1 < 64 then n + 1 else n)
        | .running (.inFrame slot bit) =>
          .running (.inFrame slot (if waits slot bit then bit else bit - 1))
        | highway => highway
      rx := match l.highway with
        | .running (.inFrame slot bit) =>
          if waits slot bit then l.rx
          else if bit = 31 then some { mark := pins.hrm.getLsbD 31, data := level bit }
          else l.rx.map fun r => { r with data := r.data ||| level bit }
        | _ => l.rx } := by
  obtain ⟨highway, active, pendingMap, timeout, compared, tx, rx⟩ := l
  cases highway with
  | off => rfl
  | enabling n =>
    by_cases more : n + 1 < 64 <;> simp only [LineHighway.tick, Config.enablingPeriods, more, if_true,
      if_false]
  | running position =>
    cases position with
    | gap => rfl
    | inFrame slot bit =>
      simp only [LineHighway.tick, Option.isSome_iff_ne_none, sampleBit]
      split <;> rfl

theorem Job.operations_eq (job : Job) : job.operations =
    match job with
    | .derive _ _ blocks => 3 * blocks.length
    | .component .. => 3
    | .checkEntry _ (some _) => 2
    | .respond .. | .commit _ | .checkEntry _ none | .checkTransport _ => 1 := by
  cases job with
  | checkEntry current previous => cases previous <;> rfl
  | derive | component | respond | commit | checkTransport => rfl

/-- The key buffer of a claim: what it loaded and what it has formed (R32, R33). -/
theorem Claim.buffer_eq (job : Job) (done : Nat) :
    job.keys ++ Claim.formedKeys { job := job, done := done } =
      match job with
      | .derive master transport blocks => .long master :: .long transport ::
          (blocks.take ((done + 2) / 3)).map fun d => .short (encrypt256 master d)
      | .component key block1 block2 => .long key ::
          if 2 ≤ done then [.long (decrypt256 key block1 ++ decrypt256 key block2)] else []
      | .respond key _ => [.long key]
      | .commit value | .checkTransport value => [.long value]
      | .checkEntry current none => [.long current]
      | .checkEntry current (some previous) => [.long current, .long previous] := by
  cases job with
  | checkEntry current previous => cases previous <;> rfl
  | derive | component | respond | commit | checkTransport => rfl

theorem CipherCore.operate_eq (cc : CipherCore) : cc.operate =
    match cc.current with
    | none => cc
    | some claim =>
      if claim.done + 1 < claim.job.operations then
        { keyBuffer := claim.job.keys ++
            Claim.formedKeys { job := claim.job, done := claim.done + 1 }
          current := some { job := claim.job, done := claim.done + 1 }
          waiting := cc.waiting }
      else cc := rfl

theorem Conversion.tick_eq (cv : Conversion) : cv.tick =
    match cv.phase with
    | .runUp =>
      if cv.count + 1 < cv.runUpCount then { cv with count := cv.count + 1 }
      else { cv with phase := .deIntegrate, count := 0 }
    | .deIntegrate =>
      { cv with count := if cv.count < 2 * cv.runUpCount then cv.count + 1 else cv.count } := by
  obtain ⟨mesh, runUpCount, phase, count⟩ := cv
  cases phase with
  | runUp => rfl
  | deIntegrate =>
    simp only [Conversion.tick]
    split_ifs <;> rfl

theorem Timer.tick_eq (limit : Nat) (timer : Timer) : timer.tick limit =
    match timer with
    | .running e => .running (if e + 1 < limit then e + 1 else e)
    | timer => timer := by
  cases timer with
  | stopped | atLimit => rfl
  | running e =>
    simp only [Timer.tick]
    split <;> rfl

/-- The return level as one number of millivolts (R163). -/
theorem returnMv_eq (code : Fin 4) : returnMv code = 3100 - 50 * code.val := by
  have inRange := code.isLt
  unfold returnMv criterionMv
  omega

/-- In hold a stopped return timer starts where VDD stands above the return level (R163, R189; assumption
log 33). -/
theorem State.returnTick_eq (s : State) : s.returnTick =
    if s.pwr.supply = .hold ∧ s.ess.returnTimer = .stopped ∧
        3100 - 50 * s.ess.criterion.val < s.pins.vdd then .running 0
    else s.ess.returnTimer.tick 50000 := by
  rw [← returnMv_eq]
  unfold State.returnTick
  split
  · next hold stopped => simp only [hold, stopped, true_and, Timer.tick]
  · next other => exact (if_neg fun ⟨hold, stopped, _⟩ => other hold stopped).symm

end Counts

/-- Settles O1: the front command, or one unit of each count. -/
theorem stepRunsTheFrontCommand : Obligations.StepRunsTheFrontCommand := by
  refine ⟨fun c rest s front => ?_, ?_⟩
  · simp only [step, front]
    rfl
  · intro s empty operations buffer counts waits level
    have needs : Job.operations = operations := funext Job.operations_eq
    have loads (job : Job) (done : Nat) :
        job.keys ++ Claim.formedKeys { job := job, done := done } = buffer job done :=
      Claim.buffer_eq job done
    have advances (limit : Nat) (timer : Timer) : timer.tick limit = counts limit timer :=
      Timer.tick_eq limit timer
    have runs : step s = .next s.tick := by simp only [step, empty]
    rw [runs, State.tick, LineHighway.tick_eq, CipherCore.operate_eq, funext Conversion.tick_eq,
      State.returnTick_eq]
    simp only [needs, loads, advances]
    rfl

end Sys2Proof.Machine

/-! Hold entry and the steps of a restart, by the requests, the timers and RESET that begin them
(R162, R163, R183 to R189). -/

namespace Sys2Proof.Machine

/-! ## The steps of a restart (R187, R188, R189) -/

section Restart

variable {s : State} {cold : Bool}

/-- Steps 4 and 5 as one next state (R187). -/
theorem State.finishRestart_eq (cold : Bool) (s : State) : s.finishRestart cold = { s with
    pwr.supply := .normal
    ci.port := .ready none
    ci.flags := if cold then s.ci.flags else s.ci.flags ||| 0x400
    lhi.highway := .enabling 0 } := by
  cases cold <;> rfl

/-- The state with its restart counted, unless it follows a cold start (R187, R189). -/
def State.restartCounted (cold : Bool) (s : State) : State :=
  { s with pwr.restartCount := if cold then s.pwr.restartCount else min (s.pwr.restartCount + 1) 65535 }

theorem State.continueRestart_eq (cold : Bool) (s : State) :
    s.continueRestart cold = (s.restartCounted cold).selfCheckFrom 0 cold :=
  rfl

/-- With no key stored step 3 ends at once (R188). -/
theorem State.continueRestart_of_noKeys (keyless : s.noKeys) :
    s.continueRestart cold = (s.restartCounted cold).finishRestart cold :=
  State.selfCheckFrom_of_none (s := s.restartCounted cold) (fun i _ => keyless.1 i)
    fun c _ => keyless.2 c

/-! ### What lets a restart go on -/

theorem State.releaseReset_of_other (other : ∀ cold, s.pwr.supply ≠ .restarting .initialised cold) :
    s.releaseReset = s := by
  unfold State.releaseReset
  split
  · exact absurd ‹_› (other _)
  all_goals rfl

theorem State.releaseReset_of_erasing (erasing : s.ec.position ≠ none) : s.releaseReset = s := by
  unfold State.releaseReset
  split
  · exact if_pos (State.erasing_of_position erasing)
  all_goals rfl

theorem State.releaseReset_of_resting (supply : s.pwr.supply = .restarting .initialised cold)
    (idle : s.ec.position = none) : s.releaseReset = s.continueRestart cold := by
  have quiet : s.erasing = false := by rw [State.erasing, idle, Option.isSome_none]
  simp only [State.releaseReset, supply, quiet, Bool.false_eq_true, if_false]

theorem State.resumeRestart_of_low (supply : s.pwr.supply = .restarting .initialised cold)
    (low : s.pins.resetLow = true) : s.resumeRestart = s := by
  simp only [State.resumeRestart, supply, low, if_true]

theorem State.resumeRestart_of_high (supply : s.pwr.supply = .restarting .initialised cold)
    (high : s.pins.resetLow = false) : s.resumeRestart = s.continueRestart cold := by
  simp only [State.resumeRestart, supply, high, Bool.false_eq_true, if_false]

theorem State.resumeRestart_of_checked (supply : s.pwr.supply = .restarting .checked cold) :
    s.resumeRestart = s.finishRestart cold := by
  simp only [State.resumeRestart, supply]

theorem State.resumeRestart_of_resting (supply : s.pwr.supply = .normal ∨ s.pwr.supply = .hold) :
    s.resumeRestart = s := by
  rcases supply with supply | supply <;> simp only [State.resumeRestart, supply]

/-- A beginning rests after step 1 while RESET is low (R187). -/
theorem State.beginRestart_of_low (low : s.pins.resetLow = true) : s.beginRestart = s.initialise :=
  State.resumeRestart_of_low (s := s.initialise) rfl low

theorem State.beginRestart_of_high (high : s.pins.resetLow = false) :
    s.beginRestart = s.initialise.continueRestart s.pwr.coldPending :=
  State.resumeRestart_of_high (s := s.initialise) rfl high

end Restart

/-- Settles O59: the rows that let nothing go on, then step 2 and the first stored key, or the end. -/
theorem resetReleaseGoesOn : Obligations.ResetReleaseGoesOn := by
  intro s high
  have runs : exec .resetRelease s = .next high.releaseReset := rfl
  refine ⟨fun rests => ?_, fun cold supply idle => ?_⟩
  · rcases rests with other | erasing
    · rw [runs, State.releaseReset_of_other (s := high) other]
    · rw [runs, State.releaseReset_of_erasing (s := high) erasing]
  intro count visits
  rw [State.releaseReset_of_resting (s := high) supply idle] at runs
  refine ⟨fun keyless => ?_, fun i d suspended current previous held before => ?_,
    fun c g entries stored before => ?_⟩
  · rw [runs, State.continueRestart_of_noKeys (s := high) keyless, State.finishRestart_eq]
    rfl
  · rw [State.continueRestart_eq, State.selfCheckFrom_of_entry (s := high.restartCounted cold)
      (Nat.zero_le _) held fun j _ => before j] at runs
    exact runs
  · rw [State.continueRestart_eq, State.selfCheckFrom_of_channel (s := high.restartCounted cold)
      (fun i _ => entries i) (Nat.zero_le _) stored fun d _ => before d] at runs
    exact runs

/-! ## Hold entry (R141, R142, R166, R185) -/

section HoldEntry

variable {s : State}

theorem MonitorState.endLearning_eq (x : MonitorState) :
    x.endLearning = if x = .learning then .unarmed else x := by
  cases x <;> rfl

/-- The monitor at hold entry: the conversion in progress is discarded and one begins on its mesh. -/
theorem TamperMonitor.holdEntry_of_running {tm : TamperMonitor} {cv : Conversion}
    (running : tm.conversion = some cv) :
    let r (m : Mesh) (x : MeshRecord) : MeshRecord :=
      { x with strikes := 0, lastValid := if cv.mesh = m then false else x.lastValid }
    tm.holdEntry = { tm with
      state := if tm.state = .learning then .unarmed else tm.state
      learning := none
      schedule := .hold
      meshA := r .a tm.meshA
      meshB := r .b tm.meshB
      conversion := some (Conversion.start cv.mesh 512)
      nextMesh := cv.mesh.other } := by
  obtain ⟨mesh, n, phase, count⟩ := cv
  rw [← MonitorState.endLearning_eq]
  simp only [TamperMonitor.holdEntry, TamperMonitor.sameMesh, TamperMonitor.discard, running]
  cases mesh <;> rfl

/-- What a loss of work leaves of the keys (Table 11-3). -/
theorem State.noKeys_loseWork_iff (port : Port) : (s.loseWork port).noKeys ↔ s.noKeys := by
  simp only [State.noKeys, State.channel_loseWork]
  rfl

theorem State.noKeys_holdLost_iff : s.holdLost.noKeys ↔ s.noKeys :=
  State.noKeys_loseWork_iff (s := s) .off

/-- Hold entry with a last result that is no battery trip (R166, R185). -/
theorem State.holdEntry_of_quiet
    (quiet : ∀ x, s.ess.result = some x → x.belowErase = false ∨ s.noKeys) :
    s.holdEntry = s.holdLost := by
  have same : s.holdLost.ess.result = s.ess.result := rfl
  rw [State.holdEntry_eq, same]
  cases result : s.ess.result with
  | none => rfl
  | some x =>
    exact State.judgeInHold_of_quiet ((quiet x result).imp_right State.noKeys_holdLost_iff.mpr)

/-- Hold entry with a last result below the erase level, and keys to erase (R166, R170). -/
theorem State.holdEntry_of_flat {x : BatteryResult} (result : s.ess.result = some x)
    (below : x.belowErase = true) (keys : ¬s.noKeys) (idle : s.ec.position = none) :
    s.holdEntry = s.holdLost.eraseStart .battery := by
  have same : s.holdLost.ess.result = s.ess.result := rfl
  rw [State.holdEntry_eq, same, result,
    State.judgeInHold_of_flat below (mt State.noKeys_holdLost_iff.mp keys)]
  exact State.trigger_idle .battery s.holdLost idle

end HoldEntry

/-! ## The requests (R162, R163, R183, R186) -/

section Requests

variable {s : State}

theorem Supply.normalPower_iff {x : Supply} : x.normalPower = true ↔ x ≠ .hold := by
  cases x <;> simp [Supply.normalPower]

theorem SupplySensing.returnRuns_iff {vdd : Nat} {e : SupplySensing} :
    e.returnRuns vdd = true ↔ (∃ n, e.returnTimer = .running n) ∨
      (e.returnTimer = .stopped ∧ 3100 - 50 * e.criterion.val < vdd) := by
  rw [← returnMv_eq]
  unfold SupplySensing.returnRuns
  split <;> simp [*]

theorem exec_lowTimerExpiry {e : Nat} (power : s.pwr.supply ≠ .hold)
    (running : s.ess.lowTimer = .running e) : exec .lowTimerExpiry s =
      .next (s.withEss { s.ess with lowTimer := .atLimit, holdSent := true }).requestHold :=
  if_pos (by rw [Supply.normalPower_iff.mpr power, running]; rfl)

theorem exec_returnTimerExpiry (hold : s.pwr.supply = .hold)
    (runs : s.ess.returnRuns s.pins.vdd = true) : exec .returnTimerExpiry s =
      if s.pwr.batteryLost = true then .next s
      else .next (s.withEss { s.ess with returnTimer := .atLimit }).requestRestart := by
  have power : s.pwr.supply.normalPower = false := by rw [hold]; rfl
  simp only [exec, execReturnTimerExpiry, power, runs]
  cases s.pwr.batteryLost <;> rfl

theorem State.requestHold_of_erasing (erasing : s.ec.position ≠ none) :
    s.requestHold = s.withPwr { s.pwr with held := .hold } :=
  if_pos (State.erasing_of_position erasing)

theorem State.erasing_eq_false (idle : s.ec.position = none) : ¬s.erasing = true := by
  rw [State.erasing, idle]
  exact Bool.false_ne_true

theorem State.requestHold_of_idle (idle : s.ec.position = none) : s.requestHold = s.holdEntry :=
  if_neg (State.erasing_eq_false idle)

theorem State.requestRestart_of_erasing (erasing : s.ec.position ≠ none) :
    s.requestRestart = s.withPwr { s.pwr with held := .restart } :=
  if_pos (State.erasing_of_position erasing)

theorem State.requestRestart_of_idle (idle : s.ec.position = none) :
    s.requestRestart = s.beginRestart :=
  if_neg (State.erasing_eq_false idle)

theorem State.requestReset_of_hold (hold : s.pwr.supply = .hold) : s.requestReset = s :=
  if_neg fun power => Supply.normalPower_iff.mp power hold

theorem State.requestReset_of_erasing (power : s.pwr.supply ≠ .hold)
    (erasing : s.ec.position ≠ none) :
    s.requestReset = s.withPwr { s.pwr with held := .restart, resetHeld := true } :=
  (if_pos (Supply.normalPower_iff.mpr power)).trans (if_pos (State.erasing_of_position erasing))

theorem State.requestReset_of_idle (power : s.pwr.supply ≠ .hold) (idle : s.ec.position = none) :
    s.requestReset = s.beginRestart :=
  (if_pos (Supply.normalPower_iff.mpr power)).trans (if_neg (State.erasing_eq_false idle))

end Requests

/-- Settles O58: each request held by an erase, or acted on by hold entry or the beginning of a
restart. -/
theorem requestsChangeTheSupplyState : Obligations.RequestsChangeTheSupplyState := by
  unfold Obligations.RequestsChangeTheSupplyState
  intro lost working notLearning fresh begun
  have begins (s : State) : s.initialise = begun s := by
    simp only [State.initialise, TamperMonitor.restart, MonitorState.endLearning_eq]
    rfl
  refine ⟨fun s e power running => ?_, fun s hold timer => ?_, fun s => ?_⟩
  · intro sent
    have runs : exec .lowTimerExpiry s = .next sent.requestHold := exec_lowTimerExpiry power running
    refine ⟨fun erasing => ?_, fun idle quiet cv converts => ?_, fun idle flat keys => ?_⟩
    · rw [runs, State.requestHold_of_erasing (s := sent) erasing]
      rfl
    · intro r
      have monitor := TamperMonitor.holdEntry_of_running converts
      rw [runs, State.requestHold_of_idle (s := sent) idle, State.holdEntry_of_quiet (s := sent) quiet,
        State.holdLost, SupplySensing.holdEntry, returnMv_eq, monitor, Mesh.other_eq]
      rfl
    · obtain ⟨x, result, below⟩ := flat
      rw [State.requestHold_of_idle (s := sent) idle,
        State.holdEntry_of_flat (s := sent) result below keys idle] at runs
      refine ⟨_, runs, ?_⟩
      rw [State.eraseStart_eq]
      exact ⟨rfl, rfl, rfl, rfl, rfl⟩
  · have runs := exec_returnTimerExpiry hold (SupplySensing.returnRuns_iff.mpr timer)
    refine ⟨fun noFeed => runs.trans (if_pos noFeed), fun fed => ?_⟩
    rw [if_neg (Bool.eq_false_iff.mp fed)] at runs
    let expired : State := s.withEss { s.ess with returnTimer := .atLimit }
    have begun' : expired.initialise = begun s := begins expired
    refine ⟨fun erasing => ?_, fun idle low => ?_, fun idle high => ?_⟩
    · rw [runs, State.requestRestart_of_erasing (s := expired) erasing]
      rfl
    · rw [runs, State.requestRestart_of_idle (s := expired) idle,
        State.beginRestart_of_low (s := expired) low, begun']
    · have released : exec .resetRelease (begun s) = .next (begun s).releaseReset := by
        have pins : { (begun s).pins with resetLow := false } = (begun s).pins :=
          congrArg (fun low => { (begun s).pins with resetLow := low }) high.symm
        exact congrArg (fun x => Host.Outcome.next ((begun s).withPins x).releaseReset) pins
      rw [runs, State.requestRestart_of_idle (s := expired) idle,
        State.beginRestart_of_high (s := expired) high, begun', released,
        State.releaseReset_of_resting (s := begun s) (cold := s.pwr.coldPending) rfl idle]
      rfl
  · intro low
    have runs : exec .resetLow s = .next low.requestReset := rfl
    refine ⟨fun hold => ?_, fun power erasing => ?_, fun power idle => ?_⟩
    · rw [runs, State.requestReset_of_hold (s := low) hold]
    · rw [runs, State.requestReset_of_erasing (s := low) power erasing]
      rfl
    · rw [runs, State.requestReset_of_idle (s := low) power idle,
        State.beginRestart_of_low (s := low) rfl, begins]

end Sys2Proof.Machine

/-! The loss of the retention feed, the cold start and the erase pass (R167, R173, R175, R178, R183,
R189). -/

namespace Sys2Proof.Machine

/-! ## The erase pass (R173, R175) -/

section ErasePass

variable {s : State} {i : EntryIndex}

theorem exec_eraseEntry (position : s.ec.position = some i) :
    exec .eraseEntry s = .next (s.eraseAt i) := by
  simp only [exec, execEraseEntry, position]

theorem State.eraseAt_of_next {j : EntryIndex} (next : j.val = i.val + 1) :
    s.eraseAt i = { s.setEntry i .empty with ec.position := some j } := by
  have found : nextIndex i = some j := entryIndex?_eq_some next.symm
  simp only [State.eraseAt, found]
  rfl

/-- The state in which the pass has ended, before it acts on what was held (R175). -/
def State.passEnded (i : EntryIndex) (s : State) : State :=
  { s.setEntry i .empty with
    ec.position := none
    ec.record.completed := true
    ci.flags := s.ci.flags ||| 0x002 }

theorem State.eraseAt_of_last (last : i.val = 95) : s.eraseAt i = (s.passEnded i).actOnHeld := by
  have none : nextIndex i = none := entryIndex?_eq_none (by omega)
  simp only [State.eraseAt, none]
  rfl

/-- No key is left when the pass ends (R173, R175). -/
theorem State.passEnded_noKeys (law : s.KeyLaw) (position : s.ec.position = some i)
    (last : i.val = 95) : (s.passEnded i).noKeys := by
  refine ⟨fun j => ?_, law.noTransport (by simp [position])⟩
  have empty : (s.setEntry i .empty).entry j = .empty := by
    rw [State.entry_setEntry]
    split
    · rfl
    · next other =>
      refine law.passed i position j (Fin.lt_def.mpr ?_)
      have within := j.isLt
      have apart : i.val ≠ j.val := fun same => other (Fin.ext same)
      omega
  exact congrArg Entry.isHeld empty

/-! ## What was held (R183) -/

theorem State.actOnHeld_of_none (held : s.pwr.held = .none) (reset : s.pwr.resetHeld = false) :
    s.actOnHeld = s.resumeRestart := by
  simp only [State.actOnHeld, held, reset, Bool.false_eq_true, if_false]

theorem State.actOnHeld_of_hold (held : s.pwr.held = .hold) : s.actOnHeld = s.holdEntry := by
  simp only [State.actOnHeld, held]

theorem State.actOnHeld_of_restart
    (held : s.pwr.held = .restart ∨ (s.pwr.held = .none ∧ s.pwr.resetHeld = true)) :
    s.actOnHeld = s.beginRestart := by
  rcases held with held | ⟨held, reset⟩
  · simp only [State.actOnHeld, held]
  · simp only [State.actOnHeld, held, reset, if_true]

/-- A restart of a part with no key finds none, and ends at once unless RESET is low (R187, R188). -/
theorem State.beginRestart_of_noKeys (keyless : s.noKeys) (high : s.pins.resetLow = false) :
    s.beginRestart =
      (s.initialise.restartCounted s.pwr.coldPending).finishRestart s.pwr.coldPending := by
  rw [State.beginRestart_of_high high]
  exact State.continueRestart_of_noKeys ((State.noKeys_loseWork_iff (s := s) .starting).mpr keyless)

end ErasePass

/-- Settles O60: the loss of the feed, the power-up, and the pass to its next entry or to its end by what
was held. -/
theorem coldStartAndTheErasePass : Obligations.ColdStartAndTheErasePass := by
  refine ⟨fun s => rfl, fun s emzHigh adr vdd lost => if_pos lost,
    fun s emzHigh adr vdd kept => if_neg (Bool.eq_false_iff.mp kept), ?_⟩
  intro s i position emptied completed opened counted run restarts
  have runs : run = .next (s.eraseAt i) := exec_eraseEntry position
  have ends (last : i.val = 95) : run = .next completed.actOnHeld :=
    runs.trans (congrArg Host.Outcome.next (State.eraseAt_of_last last))
  have keyless (last : i.val = 95) (law : s.KeyLaw) : completed.noKeys :=
    State.passEnded_noKeys law position last
  have finishes (cold : Bool) (t : State) : t.finishRestart cold = opened cold t :=
    State.finishRestart_eq cold t
  refine ⟨fun j next => ?_, fun last held reset => ⟨fun supply => ?_, fun cold supply =>
    ⟨fun low => ?_, fun high law => ?_⟩, fun cold supply => ?_⟩, fun last held law => ?_,
    fun last held law => ?_⟩
  · rw [runs, State.eraseAt_of_next next]
  · rw [ends last, State.actOnHeld_of_none (s := completed) held reset,
      State.resumeRestart_of_resting (s := completed) supply]
  · rw [ends last, State.actOnHeld_of_none (s := completed) held reset,
      State.resumeRestart_of_low (s := completed) supply low]
  · rw [ends last, State.actOnHeld_of_none (s := completed) held reset,
      State.resumeRestart_of_high (s := completed) supply high,
      State.continueRestart_of_noKeys (keyless last law), finishes]
    rfl
  · rw [ends last, State.actOnHeld_of_none (s := completed) held reset,
      State.resumeRestart_of_checked (s := completed) supply, finishes]
  · have begins := ends last
    rw [State.actOnHeld_of_restart (s := completed) held] at begins
    cases reset : s.pins.resetLow with
    | true =>
      rw [State.beginRestart_of_low (s := completed) reset] at begins
      exact ⟨_, begins, rfl, rfl, rfl, fun _ => ⟨rfl, rfl, rfl, rfl⟩,
        fun high => Bool.noConfusion (reset.symm.trans high)⟩
    | false =>
      rw [State.beginRestart_of_noKeys (keyless last law) reset, finishes] at begins
      have raised : (if s.pwr.coldPending then (0 : BitVec 11) else 0 ||| 0x400) =
          if s.pwr.coldPending then 0 else 0x400 := congrArg (ite _ 0) (by decide)
      exact ⟨_, begins, rfl, rfl, rfl, fun low => Bool.noConfusion (reset.symm.trans low),
        fun _ => ⟨rfl, rfl, raised, rfl⟩⟩
  · have enters := ends last
    rw [State.actOnHeld_of_hold (s := completed) held,
      State.holdEntry_of_quiet fun _ _ => .inr (keyless last law)] at enters
    exact ⟨_, enters, rfl, rfl, rfl, rfl, rfl⟩

end Sys2Proof.Machine
